-- ==== Sys2Proof/Syntax.lean ====
section
/-! DEFINITION. Syntax.lean: the 51 commands of MA-DP (30_encoding.md R86).

Every constructor carries exactly the operand fields its usage class has (R80: C0 none, CA `a`, CB `b`,
CAB both), whole, as the command word holds them; the rule of each command picks the sub-field it uses
(R83). Operand fields a command does not use are ignored (R83) and are not part of the term. -/

namespace Sys2Proof

/-- A command (30_encoding.md R86), in opcode order. -/
inductive Instr where
  /-- NOP, opcode 0x00, class C0: no operation (48_scheduler_host.md R307). -/
  | nop
  /-- RESET, opcode 0x01, class C0: reset the machine (48_scheduler_host.md R308). -/
  | reset
  /-- WRS, opcode 0x02, class CAB: write an S register (48_scheduler_host.md R301). -/
  | wrs (a : BitVec 8) (b : BitVec 16)
  /-- RDS, opcode 0x03, class CA: read an S register (48_scheduler_host.md R302). -/
  | rds (a : BitVec 8)
  /-- WRC, opcode 0x04, class CAB: write a control register (48_scheduler_host.md R303). -/
  | wrc (a : BitVec 8) (b : BitVec 16)
  /-- RDC, opcode 0x05, class CA: read a control register (48_scheduler_host.md R304). -/
  | rdc (a : BitVec 8)
  /-- RDST, opcode 0x06, class C0: read STATUS (48_scheduler_host.md R306). -/
  | rdst
  /-- RDEV, opcode 0x07, class C0: read and clear EVT (48_scheduler_host.md R305). -/
  | rdev
  /-- DIALC, opcode 0x08, class CB: append a character to the dial string (48_scheduler_host.md R309). -/
  | dialc (b : BitVec 16)
  /-- DIALX, opcode 0x09, class C0: clear the dial string (48_scheduler_host.md R310). -/
  | dialx
  /-- ORIG, opcode 0x0A, class C0: originate a call (48_scheduler_host.md R311). -/
  | orig
  /-- ANSW, opcode 0x0B, class C0: answer a call (48_scheduler_host.md R312). -/
  | answ
  /-- HUP, opcode 0x0C, class C0: hang up (48_scheduler_host.md R313). -/
  | hup
  /-- WRIN, opcode 0x0D, class CAB: write an input sample cell (48_scheduler_host.md R314). -/
  | wrin (a : BitVec 8) (b : BitVec 16)
  /-- RDOUT, opcode 0x0E, class CA: read an output sample cell (48_scheduler_host.md R315). -/
  | rdout (a : BitVec 8)
  /-- PROC, opcode 0x0F, class CB: process one block (48_scheduler_host.md R316). -/
  | proc (b : BitVec 16)
  /-- STEP, opcode 0x10, class CB: process one sample (48_scheduler_host.md R317). -/
  | step (b : BitVec 16)
  /-- TXCH, opcode 0x11, class CB: write one byte for transmission (47_framing_fifo.md R269). -/
  | txch (b : BitVec 16)
  /-- RXCH, opcode 0x12, class C0: read one received byte (47_framing_fifo.md R270). -/
  | rxch
  /-- OSCP, opcode 0x20, class CAB: write a phase (40_oscillator.md R106). -/
  | oscp (a : BitVec 8) (b : BitVec 16)
  /-- OSCI, opcode 0x21, class CAB: write an increment (40_oscillator.md R107). -/
  | osci (a : BitVec 8) (b : BitVec 16)
  /-- OSCA, opcode 0x22, class CA: advance an oscillator once (40_oscillator.md R108). -/
  | osca (a : BitVec 8)
  /-- OSCC, opcode 0x23, class CA: read the cosine (40_oscillator.md R109). -/
  | oscc (a : BitVec 8)
  /-- OSCS, opcode 0x24, class CA: read the sine (40_oscillator.md R110). -/
  | oscs (a : BitVec 8)
  /-- OSCR, opcode 0x25, class CA: read PHASE and INC (40_oscillator.md R111). -/
  | oscr (a : BitVec 8)
  /-- DETI, opcode 0x30, class C0: initialise the detector (41_tone_detector.md R127). -/
  | deti
  /-- DETT, opcode 0x31, class CAB: load the timeout budget (41_tone_detector.md R128). -/
  | dett (a : BitVec 8) (b : BitVec 16)
  /-- DETS, opcode 0x32, class CB: one detector step (41_tone_detector.md R129). -/
  | dets (b : BitVec 16)
  /-- DETR, opcode 0x33, class C0: read the detector result (41_tone_detector.md R130). -/
  | detr
  /-- DTK, opcode 0x40, class CB: start a DTMF key (42_dtmf_dialer.md R145). -/
  | dtk (b : BitVec 16)
  /-- DTS, opcode 0x41, class C0: one DTMF sample (42_dtmf_dialer.md R146). -/
  | dts
  /-- FSKI, opcode 0x50, class CA: initialise the FSK modem (43_symbol_timing_fsk.md R180). -/
  | fski (a : BitVec 8)
  /-- FSKM, opcode 0x51, class C0: one FSK modulator sample (43_symbol_timing_fsk.md R181). -/
  | fskm
  /-- FSKD, opcode 0x52, class CB: one FSK demodulator sample (43_symbol_timing_fsk.md R182). -/
  | fskd (b : BitVec 16)
  /-- PSKI, opcode 0x60, class CA: initialise the PSK modem (44_psk_modem.md R207). -/
  | pski (a : BitVec 8)
  /-- PSKM, opcode 0x61, class C0: one PSK modulator sample (44_psk_modem.md R208). -/
  | pskm
  /-- PSKD, opcode 0x62, class CB: one PSK demodulator sample (44_psk_modem.md R209). -/
  | pskd (b : BitVec 16)
  /-- FIRT, opcode 0x63, class CB: one step of the transmit filter (44_psk_modem.md R211). -/
  | firt (b : BitVec 16)
  /-- FIRR, opcode 0x64, class CB: one step of the receive filter (44_psk_modem.md R212). -/
  | firr (b : BitVec 16)
  /-- MAPE, opcode 0x65, class CA: symbol to quadrant step (44_psk_modem.md R213). -/
  | mape (a : BitVec 8)
  /-- MAPD, opcode 0x66, class CA: quadrant step to symbol (44_psk_modem.md R214). -/
  | mapd (a : BitVec 8)
  /-- SCRI, opcode 0x70, class C0: initialise the scrambler (45_scrambler.md R231). -/
  | scri
  /-- SCRE, opcode 0x71, class CA: scramble one bit (45_scrambler.md R232). -/
  | scre (a : BitVec 8)
  /-- SCRD, opcode 0x72, class CA: descramble one bit (45_scrambler.md R233). -/
  | scrd (a : BitVec 8)
  /-- TIMI, opcode 0x80, class CAB: initialise the symbol-timing unit (43_symbol_timing_fsk.md R169). -/
  | timi (a : BitVec 8) (b : BitVec 16)
  /-- TIMS, opcode 0x81, class CA: one symbol-timing step (43_symbol_timing_fsk.md R170). -/
  | tims (a : BitVec 8)
  /-- BQI, opcode 0x90, class C0: initialise the bit queues (47_framing_fifo.md R266). -/
  | bqi
  /-- BQP, opcode 0x91, class CAB: push bits into the receive framer (47_framing_fifo.md R267). -/
  | bqp (a : BitVec 8) (b : BitVec 16)
  /-- BQG, opcode 0x92, class CA: pull bits from the transmit framer (47_framing_fifo.md R268). -/
  | bqg (a : BitVec 8)
  /-- FFST, opcode 0x93, class C0: FIFO status (47_framing_fifo.md R271). -/
  | ffst
  /-- FFCL, opcode 0x94, class C0: clear both FIFOs (47_framing_fifo.md R272). -/
  | ffcl
deriving DecidableEq, Repr

end Sys2Proof
end

