-- ==== Sys2Proof/Word.lean ====
section
/-! DEFINITION. Word.lean: the word types of MA-DP (00_scope.md R14, 30_encoding.md R80). -/

namespace Sys2Proof

/-- A command word or a response word: 32 bits, transferred whole (30_encoding.md R80, R82). -/
abbrev Word := BitVec 32

/-- A byte: a character, an S register, a cell of DIALSTR or of a byte FIFO (20_memory.md R60). -/
abbrev Byte := BitVec 8

/-- The `value` field of a response, bits 23:0 (30_encoding.md R82). -/
abbrev Value := BitVec 24

end Sys2Proof
end

