-- ==== Sys2Proof/Decode.lean ====
section
/-! DEFINITION. Decode.lean: the decoder of 30_encoding.md R80, R86, R87, R88, total on every 32-bit word,
and the encoder of R89, written from the same table. -/

namespace Sys2Proof

/-- Why a word is no command. -/
inductive Reject where
  /-- The opcode is not one of the 51 of R86; raised by `decode`. The machine answers such a word with
  CmdError(ILLEGAL) (R87). Safe. -/
  | illegalOpcode (op : BitVec 8)
deriving DecidableEq, Repr

/-- `op = w[31:24]` (R80). -/
def opField (w : Word) : BitVec 8 := w.extractLsb' 24 8

/-- `a = w[23:16]` (R80). -/
def aField (w : Word) : BitVec 8 := w.extractLsb' 16 8

/-- `b = w[15:0]` (R80). -/
def bField (w : Word) : BitVec 16 := w.extractLsb' 0 16

/-- The command with opcode `op` and operand fields `a`, `b`; a field the command does not use is dropped
(R83), an opcode outside the table is rejected by name (R87). -/
def decodeFields (op a : BitVec 8) (b : BitVec 16) : Except Reject Instr :=
  match op.toNat with
  | 0x00 => .ok .nop
  | 0x01 => .ok .reset
  | 0x02 => .ok (.wrs a b)
  | 0x03 => .ok (.rds a)
  | 0x04 => .ok (.wrc a b)
  | 0x05 => .ok (.rdc a)
  | 0x06 => .ok .rdst
  | 0x07 => .ok .rdev
  | 0x08 => .ok (.dialc b)
  | 0x09 => .ok .dialx
  | 0x0A => .ok .orig
  | 0x0B => .ok .answ
  | 0x0C => .ok .hup
  | 0x0D => .ok (.wrin a b)
  | 0x0E => .ok (.rdout a)
  | 0x0F => .ok (.proc b)
  | 0x10 => .ok (.step b)
  | 0x11 => .ok (.txch b)
  | 0x12 => .ok .rxch
  | 0x20 => .ok (.oscp a b)
  | 0x21 => .ok (.osci a b)
  | 0x22 => .ok (.osca a)
  | 0x23 => .ok (.oscc a)
  | 0x24 => .ok (.oscs a)
  | 0x25 => .ok (.oscr a)
  | 0x30 => .ok .deti
  | 0x31 => .ok (.dett a b)
  | 0x32 => .ok (.dets b)
  | 0x33 => .ok .detr
  | 0x40 => .ok (.dtk b)
  | 0x41 => .ok .dts
  | 0x50 => .ok (.fski a)
  | 0x51 => .ok .fskm
  | 0x52 => .ok (.fskd b)
  | 0x60 => .ok (.pski a)
  | 0x61 => .ok .pskm
  | 0x62 => .ok (.pskd b)
  | 0x63 => .ok (.firt b)
  | 0x64 => .ok (.firr b)
  | 0x65 => .ok (.mape a)
  | 0x66 => .ok (.mapd a)
  | 0x70 => .ok .scri
  | 0x71 => .ok (.scre a)
  | 0x72 => .ok (.scrd a)
  | 0x80 => .ok (.timi a b)
  | 0x81 => .ok (.tims a)
  | 0x90 => .ok .bqi
  | 0x91 => .ok (.bqp a b)
  | 0x92 => .ok (.bqg a)
  | 0x93 => .ok .ffst
  | 0x94 => .ok .ffcl
  | _ => .error (.illegalOpcode op)

/-- The decoder of R88: the same in every state of the machine. -/
def decode (w : Word) : Except Reject Instr := decodeFields (opField w) (aField w) (bField w)

/-- `op << 24 | a << 16 | b` (R89). -/
def pack (op a : BitVec 8) (b : BitVec 16) : Word := op ++ a ++ b

/-- The opcode of a command (R86). -/
def opcode : Instr → BitVec 8
  | .nop => 0x00
  | .reset => 0x01
  | .wrs _ _ => 0x02
  | .rds _ => 0x03
  | .wrc _ _ => 0x04
  | .rdc _ => 0x05
  | .rdst => 0x06
  | .rdev => 0x07
  | .dialc _ => 0x08
  | .dialx => 0x09
  | .orig => 0x0A
  | .answ => 0x0B
  | .hup => 0x0C
  | .wrin _ _ => 0x0D
  | .rdout _ => 0x0E
  | .proc _ => 0x0F
  | .step _ => 0x10
  | .txch _ => 0x11
  | .rxch => 0x12
  | .oscp _ _ => 0x20
  | .osci _ _ => 0x21
  | .osca _ => 0x22
  | .oscc _ => 0x23
  | .oscs _ => 0x24
  | .oscr _ => 0x25
  | .deti => 0x30
  | .dett _ _ => 0x31
  | .dets _ => 0x32
  | .detr => 0x33
  | .dtk _ => 0x40
  | .dts => 0x41
  | .fski _ => 0x50
  | .fskm => 0x51
  | .fskd _ => 0x52
  | .pski _ => 0x60
  | .pskm => 0x61
  | .pskd _ => 0x62
  | .firt _ => 0x63
  | .firr _ => 0x64
  | .mape _ => 0x65
  | .mapd _ => 0x66
  | .scri => 0x70
  | .scre _ => 0x71
  | .scrd _ => 0x72
  | .timi _ _ => 0x80
  | .tims _ => 0x81
  | .bqi => 0x90
  | .bqp _ _ => 0x91
  | .bqg _ => 0x92
  | .ffst => 0x93
  | .ffcl => 0x94

/-- Operand `a` of a command, zero where the command does not use it (R89). -/
def operandA : Instr → BitVec 8
  | .nop => 0
  | .reset => 0
  | .wrs a _ => a
  | .rds a => a
  | .wrc a _ => a
  | .rdc a => a
  | .rdst => 0
  | .rdev => 0
  | .dialc _ => 0
  | .dialx => 0
  | .orig => 0
  | .answ => 0
  | .hup => 0
  | .wrin a _ => a
  | .rdout a => a
  | .proc _ => 0
  | .step _ => 0
  | .txch _ => 0
  | .rxch => 0
  | .oscp a _ => a
  | .osci a _ => a
  | .osca a => a
  | .oscc a => a
  | .oscs a => a
  | .oscr a => a
  | .deti => 0
  | .dett a _ => a
  | .dets _ => 0
  | .detr => 0
  | .dtk _ => 0
  | .dts => 0
  | .fski a => a
  | .fskm => 0
  | .fskd _ => 0
  | .pski a => a
  | .pskm => 0
  | .pskd _ => 0
  | .firt _ => 0
  | .firr _ => 0
  | .mape a => a
  | .mapd a => a
  | .scri => 0
  | .scre a => a
  | .scrd a => a
  | .timi a _ => a
  | .tims a => a
  | .bqi => 0
  | .bqp a _ => a
  | .bqg a => a
  | .ffst => 0
  | .ffcl => 0

/-- Operand `b` of a command, zero where the command does not use it (R89). -/
def operandB : Instr → BitVec 16
  | .nop => 0
  | .reset => 0
  | .wrs _ b => b
  | .rds _ => 0
  | .wrc _ b => b
  | .rdc _ => 0
  | .rdst => 0
  | .rdev => 0
  | .dialc b => b
  | .dialx => 0
  | .orig => 0
  | .answ => 0
  | .hup => 0
  | .wrin _ b => b
  | .rdout _ => 0
  | .proc b => b
  | .step b => b
  | .txch b => b
  | .rxch => 0
  | .oscp _ b => b
  | .osci _ b => b
  | .osca _ => 0
  | .oscc _ => 0
  | .oscs _ => 0
  | .oscr _ => 0
  | .deti => 0
  | .dett _ b => b
  | .dets b => b
  | .detr => 0
  | .dtk b => b
  | .dts => 0
  | .fski _ => 0
  | .fskm => 0
  | .fskd b => b
  | .pski _ => 0
  | .pskm => 0
  | .pskd b => b
  | .firt b => b
  | .firr b => b
  | .mape _ => 0
  | .mapd _ => 0
  | .scri => 0
  | .scre _ => 0
  | .scrd _ => 0
  | .timi _ b => b
  | .tims _ => 0
  | .bqi => 0
  | .bqp _ b => b
  | .bqg _ => 0
  | .ffst => 0
  | .ffcl => 0

/-- The command word of a command, unused fields zero (R89). -/
def encode (i : Instr) : Word := pack (opcode i) (operandA i) (operandB i)

/-- The opcodes of the table, in its order (R86); every other value is illegal (R87). -/
def legalOpcodes : List (BitVec 8) :=
  [0x00, 0x01, 0x02, 0x03, 0x04, 0x05, 0x06, 0x07, 0x08, 0x09, 0x0A, 0x0B,
   0x0C, 0x0D, 0x0E, 0x0F, 0x10, 0x11, 0x12, 0x20, 0x21, 0x22, 0x23, 0x24,
   0x25, 0x30, 0x31, 0x32, 0x33, 0x40, 0x41, 0x50, 0x51, 0x52, 0x60, 0x61,
   0x62, 0x63, 0x64, 0x65, 0x66, 0x70, 0x71, 0x72, 0x80, 0x81, 0x90, 0x91,
   0x92, 0x93, 0x94]

/-- Does the command use operand field `a` (classes CA and CAB, R80)? -/
def usesA : Instr → Bool
  | .nop => false
  | .reset => false
  | .wrs _ _ => true
  | .rds _ => true
  | .wrc _ _ => true
  | .rdc _ => true
  | .rdst => false
  | .rdev => false
  | .dialc _ => false
  | .dialx => false
  | .orig => false
  | .answ => false
  | .hup => false
  | .wrin _ _ => true
  | .rdout _ => true
  | .proc _ => false
  | .step _ => false
  | .txch _ => false
  | .rxch => false
  | .oscp _ _ => true
  | .osci _ _ => true
  | .osca _ => true
  | .oscc _ => true
  | .oscs _ => true
  | .oscr _ => true
  | .deti => false
  | .dett _ _ => true
  | .dets _ => false
  | .detr => false
  | .dtk _ => false
  | .dts => false
  | .fski _ => true
  | .fskm => false
  | .fskd _ => false
  | .pski _ => true
  | .pskm => false
  | .pskd _ => false
  | .firt _ => false
  | .firr _ => false
  | .mape _ => true
  | .mapd _ => true
  | .scri => false
  | .scre _ => true
  | .scrd _ => true
  | .timi _ _ => true
  | .tims _ => true
  | .bqi => false
  | .bqp _ _ => true
  | .bqg _ => true
  | .ffst => false
  | .ffcl => false

/-- Does the command use operand field `b` (classes CB and CAB, R80)? -/
def usesB : Instr → Bool
  | .nop => false
  | .reset => false
  | .wrs _ _ => true
  | .rds _ => false
  | .wrc _ _ => true
  | .rdc _ => false
  | .rdst => false
  | .rdev => false
  | .dialc _ => true
  | .dialx => false
  | .orig => false
  | .answ => false
  | .hup => false
  | .wrin _ _ => true
  | .rdout _ => false
  | .proc _ => true
  | .step _ => true
  | .txch _ => true
  | .rxch => false
  | .oscp _ _ => true
  | .osci _ _ => true
  | .osca _ => false
  | .oscc _ => false
  | .oscs _ => false
  | .oscr _ => false
  | .deti => false
  | .dett _ _ => true
  | .dets _ => true
  | .detr => false
  | .dtk _ => true
  | .dts => false
  | .fski _ => false
  | .fskm => false
  | .fskd _ => true
  | .pski _ => false
  | .pskm => false
  | .pskd _ => true
  | .firt _ => true
  | .firr _ => true
  | .mape _ => false
  | .mapd _ => false
  | .scri => false
  | .scre _ => false
  | .scrd _ => false
  | .timi _ _ => true
  | .tims _ => false
  | .bqi => false
  | .bqp _ _ => true
  | .bqg _ => false
  | .ffst => false
  | .ffcl => false

/-- The host's question about one row of spec/opcode_table.json: the command the decoder reads from an
instruction whose bits are `w`, every bit at or above `nbits` zero. A command word is one 32-bit value,
transferred whole (20_memory.md R64), so no byte order enters. -/
def decodeTableWord (nbits w : Nat) : Option Instr :=
  match decode (BitVec.ofNat 32 (w % 2 ^ nbits)) with
  | .ok i => some i
  | .error _ => none

end Sys2Proof
end

