-- ==== Sys2Proof/Machine/Arith.lean ====
section
/-! DEFINITION. Machine/Arith.lean: the exact integer arithmetic of 00_scope.md R15 and the delay-line
helpers the units share. -/

namespace Sys2Proof.Machine

/-- `asr(v, k)` = floor(v / 2^k) (R15). -/
def asr (v : Int) (k : Nat) : Int := v / ((2 ^ k : Nat) : Int)

/-- `sat16(v)` (R15). -/
def sat16 (v : Int) : Int := if v < -32768 then -32768 else if v > 32767 then 32767 else v

/-- `lo16(v)`, the two's-complement 16-bit pattern of `v` (R15). -/
def lo16 (v : Int) : BitVec 16 := BitVec.ofInt 16 v

/-- `sext_16(b)` (R15). -/
def sext16 (b : BitVec 16) : Int := b.toInt

/-- `rev8(b)`: bit i of the result is bit 7-i of b (R15). -/
def rev8 (b : BitVec 8) : BitVec 8 :=
  BitVec.ofBool (b.getLsbD 0) ++ BitVec.ofBool (b.getLsbD 1) ++ BitVec.ofBool (b.getLsbD 2) ++
    BitVec.ofBool (b.getLsbD 3) ++ BitVec.ofBool (b.getLsbD 4) ++ BitVec.ofBool (b.getLsbD 5) ++
    BitVec.ofBool (b.getLsbD 6) ++ BitVec.ofBool (b.getLsbD 7)

/-- `Σ_{k=0..n-1} f k`, exact (00_scope.md R16). -/
def sigma : Nat → (Nat → Int) → Int
  | 0, _ => 0
  | n + 1, f => sigma n f + f n

/-- Element `k` of a delay line, index 0 newest. -/
def tap {n : Nat} (d : Vector Int n) (k : Nat) : Int := d.toList.getD k 0

/-- `for k in n-1 down to 1: D[k] <- D[k-1]`, then `D[0] <- x` (R178, R204, R205). -/
def shiftIn {n : Nat} (x : Int) (d : Vector Int n) : Vector Int n :=
  ⟨((x :: d.toList).take n).toArray, by simp⟩

end Sys2Proof.Machine
end

