-- ==== Sys2Proof/Machine/State.lean ====
section
/-! DEFINITION. Machine/State.lean: the whole state of MA-DP (10_state.md R20 to R49, 20_memory.md R60) as
plain data, the ways a step can stop, and the state after reset.

Registers the spec treats as bits or that wrap are bit vectors of the spec's width. Counters, budgets,
correlation sums and delay-line values are exact `Nat` and `Int` (00_scope.md R15: "the widths in
10_state.md are proven bounds, not wrap points"); Safety.lean states those bounds (log entry 3).
Registers with a named set of values are enumerations of exactly the values that occur (log entry 4). -/

namespace Sys2Proof.Machine

/-- Why a step stops with a fault. No constructor: no rule of the spec stops the machine (60_exceptions.md
R351, R355: errors and events are ordinary next states). Safe: nothing raises one. -/
inductive Fault where
deriving DecidableEq, Repr

/-- Why a step has no meaning. -/
inductive Refusal where
  /-- Raised only by an arm of `exec` whose instruction has no meaning in this model yet; no arm raises it
  now. Safe: a refused step proves nothing about the hardware. -/
  | notModelled (mnemonic : String)
deriving DecidableEq, Repr

/-- A cell-addressed memory with cells of `w` bits (20_memory.md R60): the listed (index, cell) pairs in
canonical form, indices strictly rising, no listed cell zero. An unlisted cell reads as zero, the reset
contents of every RAM (10_state.md R48). `Memory 8` is `List Host.Cell`. -/
abbrev Memory (w : Nat) : Type := List (Nat × BitVec w)

/-- One oscillator of the bank (10_state.md R21). -/
structure Osc where
  /-- The phase accumulator. -/
  phase : BitVec 12
  /-- The increment added at each advance. -/
  inc : BitVec 12
deriving DecidableEq, Repr

/-- The datapumps, values 0 to 4 of DP (R24). -/
inductive Datapump where
  | none | dialer | detector | fsk | psk
deriving DecidableEq, Repr

/-- The values of NEXT (R24): a datapump, or the invalid identifier 7 of `modem_of` (R292). -/
inductive Target where
  | dp (d : Datapump)
  | invalid
deriving DecidableEq, Repr

/-- DIR, FDIR, PDIR: 0 originator, 1 answerer (R29). -/
inductive Direction where
  | originator | answerer
deriving DecidableEq, Repr

/-- DLSTATE: 0 WAIT, 1 DIAL, 2 FINISHED (R25). -/
inductive DialState where
  | wait | dial | finished
deriving DecidableEq, Repr

/-- PH: 0 RAW, 1 SCRAMBLED, 2 DATA, 3 FAILED (R41). -/
inductive Phase where
  | raw | scrambled | data | failed
deriving DecidableEq, Repr

/-- TXM: 0 raw, 1 scrambled pattern, 2 data (R41). -/
inductive TxMode where
  | raw | scrambled | data
deriving DecidableEq, Repr

/-- The control registers (R34). -/
structure Control where
  /-- MODE, index 0. -/
  mode : BitVec 2
  /-- IEN, index 1 (R28). -/
  ien : BitVec 11
  /-- DETMASK, index 2. -/
  detmask : BitVec 4
  /-- DETFRQ0..DETFRQ3, indices 3 to 6. -/
  detfrq : Vector (BitVec 12) 4
deriving DecidableEq, Repr

/-- The scheduler's registers (R24, R29, R31, R44). -/
structure Sched where
  /-- DP, the active datapump. -/
  dp : Datapump
  /-- NEXT, the requested datapump. -/
  next : Target
  /-- PEND, a request is outstanding. -/
  pend : Bool
  /-- DIR, the call direction. -/
  dir : Direction
  /-- CONNECT, the modem-level CONNECT status. -/
  connect : Bool
  /-- OFFHOOK, the output to the line interface. -/
  offhook : Bool
  /-- LT, the line timer in samples. -/
  lt : Nat
deriving DecidableEq, Repr

/-- The dialer's sequencing registers and the dial-string memory (R25, 20_memory.md R62). -/
structure Dial where
  /-- DLSTATE. -/
  dlstate : DialState
  /-- DLPOS, the index of the next token. -/
  dlpos : Nat
  /-- DLS8, the captured S8. -/
  dls8 : BitVec 8
  /-- DIALLEN, the number of valid bytes. -/
  diallen : Nat
  /-- DIALSTR[0..63]. -/
  dialstr : Memory 8
deriving DecidableEq, Repr

/-- The tone detector's registers (R36); its phases are OSC[1..4]. -/
structure Detector where
  /-- DI[0..3], the in-phase sums. -/
  di : Vector Int 4
  /-- DQ[0..3], the quadrature sums. -/
  dq : Vector Int 4
  /-- DE, the block energy. -/
  de : Nat
  /-- WCNT, samples in the current window. -/
  wcnt : Nat
  /-- DETECTED, the mask of the last completed window. -/
  detected : BitVec 4
  /-- TMO, the remaining budget in samples. -/
  tmo : Nat
deriving DecidableEq, Repr

/-- The symbol-timing unit (R38). -/
structure Tim where
  /-- TCUR, the current debounced value. -/
  tcur : BitVec 2
  /-- TCAND, the candidate value. -/
  tcand : BitVec 2
  /-- TACC, the candidate's persistence accumulator. -/
  tacc : Nat
  /-- BACC, the running bit-duration counter. -/
  bacc : Nat
  /-- TRATE, symbols per second. -/
  trate : Nat
deriving DecidableEq, Repr

/-- The FSK modem's registers (R39); its phases are OSC[7..9]. -/
structure Fsk where
  /-- FDIR. -/
  fdir : Direction
  /-- FTXBIT, the bit being transmitted. -/
  ftxbit : Bool
  /-- FTXACC, the transmit bit-time accumulator. -/
  ftxacc : Nat
  /-- FX[0..26], the receive delay line, newest first. -/
  fx : Vector Int 27
  /-- FCD, carrier detected. -/
  fcd : Bool
  /-- FCDCNT, the carrier run counter. -/
  fcdcnt : Nat
  /-- CDON, the captured S9. -/
  cdon : BitVec 8
  /-- CDOFF, the captured S10. -/
  cdoff : BitVec 8
deriving DecidableEq, Repr

/-- The PSK modem's signal-path registers (R40); its phases are OSC[10] and OSC[11]. -/
structure Psk where
  /-- PDIR. -/
  pdir : Direction
  /-- PSYMACC, the transmit symbol-time accumulator. -/
  psymacc : Nat
  /-- TXD[0..12], the transmit filter's delay line, newest first. -/
  txd : Vector Int 13
  /-- RXD[0..12], the receive filter's delay line, newest first. -/
  rxd : Vector Int 13
  /-- PX[0..7], the correlator's delay line, newest first. -/
  px : Vector Int 8
  /-- ZI[0..12], the in-phase history, newest first. -/
  zi : Vector Int 13
  /-- ZQ[0..12], the quadrature history, newest first. -/
  zq : Vector Int 13
deriving DecidableEq, Repr

/-- The PSK negotiation sequencer's registers (R41). -/
structure Neg where
  /-- PH, the receive-side phase. -/
  ph : Phase
  /-- TXM, the transmit-side mode. -/
  txm : TxMode
  /-- NRUN, symbols of the current run. -/
  nrun : Nat
  /-- NGOOD, expected symbols of the run. -/
  ngood : Nat
  /-- NERR, errors of the run. -/
  nerr : Nat
  /-- NBUD, the run's budget. -/
  nbud : Nat
  /-- NRETRY, the one retry has been used. -/
  nretry : Bool
  /-- THOLD, hold-off symbols still to be sent. -/
  thold : Nat
deriving DecidableEq, Repr

/-- The scrambler and descrambler (R42). -/
structure Scr where
  /-- SR, the scrambler's register, newest line bit in bit 0. -/
  sr : BitVec 17
  /-- SONES, consecutive line ones sent. -/
  sones : Nat
  /-- DR, the descrambler's register, newest line bit in bit 0. -/
  dr : BitVec 17
  /-- DONES, consecutive line ones received. -/
  dones : Nat
deriving DecidableEq, Repr

/-- The asynchronous bit queues (R43). -/
structure BitQ where
  /-- RXB, the receive bit buffer. -/
  rxb : BitVec 32
  /-- RXC, its count of held bits. -/
  rxc : Nat
  /-- TXB, the transmit bit buffer. -/
  txb : BitVec 32
  /-- TXC, its count of held bits. -/
  txc : Nat
deriving DecidableEq, Repr

/-- A byte FIFO: a ring of 256 cells and its pointers (R45, 20_memory.md R63). -/
structure Fifo where
  /-- HEAD, the index the next byte is pushed at. -/
  head : BitVec 8
  /-- TAIL, the index the next byte is popped from. -/
  tail : BitVec 8
  /-- The cells. -/
  cells : Memory 8
deriving DecidableEq, Repr

/-- What the host can present to the machine between commands (log entries 1 and 8). -/
inductive HostInput where
  /-- A command word on the command port (30_encoding.md R81). -/
  | command (w : Word)
  /-- The hardware reset input (70_reset_and_hazards.md R370). -/
  | resetInput
deriving DecidableEq, Repr

/-- The whole state: every register and RAM of 10_state.md and 20_memory.md, and the model's own view of
the command port. -/
structure State where
  /-- OSC[0..11], the oscillator bank (R21). -/
  osc : Vector Osc 12
  /-- S[0..15], the S registers (R32). -/
  sreg : Vector (BitVec 8) 16
  /-- MODE, IEN, DETMASK, DETFRQ0..3 (R34). -/
  ctl : Control
  /-- EVT, the event register (R27). -/
  evt : BitVec 11
  /-- DP, NEXT, PEND, DIR, CONNECT, OFFHOOK, LT. -/
  sched : Sched
  /-- DLSTATE, DLPOS, DLS8, DIALLEN, DIALSTR. -/
  dial : Dial
  /-- DTREM, the samples remaining of the current digit (R37). -/
  dtrem : Nat
  /-- DI, DQ, DE, WCNT, DETECTED, TMO. -/
  det : Detector
  /-- TCUR, TCAND, TACC, BACC, TRATE. -/
  tim : Tim
  /-- FDIR, FTXBIT, FTXACC, FX, FCD, FCDCNT, CDON, CDOFF. -/
  fsk : Fsk
  /-- PDIR, PSYMACC, TXD, RXD, PX, ZI, ZQ. -/
  psk : Psk
  /-- PH, TXM, NRUN, NGOOD, NERR, NBUD, NRETRY, THOLD. -/
  neg : Neg
  /-- SR, SONES, DR, DONES. -/
  scr : Scr
  /-- RXB, RXC, TXB, TXC. -/
  bq : BitQ
  /-- RXHEAD, RXTAIL, RXFIFO. -/
  rxfifo : Fifo
  /-- TXHEAD, TXTAIL, TXFIFO. -/
  txfifo : Fifo
  /-- INBUF[0..255] (20_memory.md R61). -/
  inbuf : Memory 16
  /-- OUTBUF[0..255] (20_memory.md R61). -/
  outbuf : Memory 16
  /-- Model's own: the inputs the host still presents, the next one first (log entry 1). -/
  port : List HostInput
  /-- Model's own: the response word of the last executed command (log entry 2). -/
  resp : Option Word
deriving DecidableEq, Repr

/-- The machine after reset, every field at the value of 10_state.md R48; the host has presented nothing
and no response has been returned (log entries 1, 2). -/
def State.reset : State where
  osc := #v[⟨0, 0⟩, ⟨0, 0⟩, ⟨0, 0⟩, ⟨0, 0⟩, ⟨0, 0⟩, ⟨0, 0⟩, ⟨0, 0⟩,
            ⟨0, 502⟩, ⟨0, 845⟩, ⟨0, 947⟩, ⟨0, 614⟩, ⟨0, 1229⟩]
  sreg := cfg.sReset
  ctl := ⟨0, 0, 0, #v[0, 0, 0, 0]⟩
  evt := 0
  sched := ⟨.none, .dp .none, false, .originator, false, false, 0⟩
  dial := ⟨.wait, 0, 0, 0, []⟩
  dtrem := 0
  det := ⟨#v[0, 0, 0, 0], #v[0, 0, 0, 0], 0, 0, 0, 0⟩
  tim := ⟨1, 1, 0, 0, 600⟩
  fsk := ⟨.originator, true, 8000, #v[0, 0, 0, 0, 0, 0, 0, 0, 0, 0, 0, 0, 0, 0, 0, 0, 0, 0, 0, 0, 0, 0, 0, 0, 0, 0, 0],
          false, 0, 6, 14⟩
  psk := ⟨.originator, 8000, #v[0, 0, 0, 0, 0, 0, 0, 0, 0, 0, 0, 0, 0], #v[0, 0, 0, 0, 0, 0, 0, 0, 0, 0, 0, 0, 0],
          #v[0, 0, 0, 0, 0, 0, 0, 0], #v[0, 0, 0, 0, 0, 0, 0, 0, 0, 0, 0, 0, 0], #v[0, 0, 0, 0, 0, 0, 0, 0, 0, 0, 0, 0, 0]⟩
  neg := ⟨.raw, .raw, 0, 0, 0, 96, false, 0⟩
  scr := ⟨0, 0, 0, 0⟩
  bq := ⟨0, 0, 0, 0⟩
  rxfifo := ⟨0, 0, []⟩
  txfifo := ⟨0, 0, []⟩
  inbuf := []
  outbuf := []
  port := []
  resp := none

end Sys2Proof.Machine
end

