-- ==== Sys2Proof/Machine/Operands.lean ====
section
/-! DEFINITION. Machine/Operands.lean: the operand forms of 30_encoding.md R83. Operand `a` is 8 bits,
operand `b` 16 bits; a rule that names a sub-field uses only those bits. -/

namespace Sys2Proof.Machine

/-- `b` as a signed sample, `sext_16(b)` (R83). -/
def sampleOf (b : BitVec 16) : Int := sext16 b
/-- `a[0]` as a bit (R83). -/
def bit0 (a : BitVec 8) : Bool := a.getLsbD 0
/-- `a[1:0]` (R83). -/
def low2 (a : BitVec 8) : BitVec 2 := a.setWidth 2
/-- `b[1:0]` (10_state.md R35). -/
def bLow2 (b : BitVec 16) : BitVec 2 := b.setWidth 2
/-- `b[3:0]` (10_state.md R35). -/
def bLow4 (b : BitVec 16) : BitVec 4 := b.setWidth 4
/-- `b[7:0]` (R83). -/
def bLow8 (b : BitVec 16) : BitVec 8 := b.setWidth 8
/-- `b[10:0]` (R83). -/
def bLow11 (b : BitVec 16) : BitVec 11 := b.setWidth 11
/-- `b[11:0]` (R83). -/
def bLow12 (b : BitVec 16) : BitVec 12 := b.setWidth 12
/-- `a ++ b`, DETT's 24-bit value with `a` in bits 23:16 (R83). -/
def concat24 (a : BitVec 8) (b : BitVec 16) : BitVec 24 := a ++ b

/-- The direction a bit stands for: 0 originator, 1 answerer (10_state.md R29). -/
def Direction.ofBit (d : Bool) : Direction := if d then .answerer else .originator
/-- The bit of a direction (10_state.md R29). -/
def Direction.bit : Direction → Bool
  | .originator => false
  | .answerer => true
/-- The channel `d` a direction transmits on (R172, R196). -/
def Direction.txChannel : Direction → Fin 2
  | .originator => 0
  | .answerer => 1
/-- The channel `1 - d` a direction receives on (R172, R196). -/
def Direction.rxChannel : Direction → Fin 2
  | .originator => 1
  | .answerer => 0

/-- The oscillator index operand, or none above 11 (40_oscillator.md R105). -/
def oscOperand (a : BitVec 8) : Option (Fin 12) :=
  if h : a.toNat < 12 then some ⟨a.toNat, h⟩ else none
/-- The S register index operand, or none above 15 (48_scheduler_host.md R301). -/
def sOperand (a : BitVec 8) : Option (Fin 16) :=
  if h : a.toNat < 16 then some ⟨a.toNat, h⟩ else none

/-- The control registers by index (10_state.md R34). -/
inductive ControlReg where
  | mode | ien | detmask
  | detfrq (k : Fin 4)
deriving DecidableEq, Repr

/-- The control register index operand, or none above 6 (10_state.md R34). -/
def ctlOperand (a : BitVec 8) : Option ControlReg :=
  match a.toNat with
  | 0 => some .mode
  | 1 => some .ien
  | 2 => some .detmask
  | 3 => some (.detfrq 0)
  | 4 => some (.detfrq 1)
  | 5 => some (.detfrq 2)
  | 6 => some (.detfrq 3)
  | _ => none

/-- The block count operand of PROC, 1..256, or none (48_scheduler_host.md R316). -/
def blockCountOperand (b : BitVec 16) : Option Nat :=
  if 1 ≤ b.toNat ∧ b.toNat ≤ Param.blkMax then some b.toNat else none
/-- The rate operand of TIMI, 1..8000, or none (43_symbol_timing_fsk.md R169). -/
def rateOperand (b : BitVec 16) : Option Nat :=
  if 1 ≤ b.toNat ∧ b.toNat ≤ Param.fs then some b.toNat else none
/-- The bit count operand of BQP and BQG, 1..16, or none (47_framing_fifo.md R267, R268). -/
def bitCountOperand (a : BitVec 8) : Option Nat :=
  if 1 ≤ a.toNat ∧ a.toNat ≤ 16 then some a.toNat else none

end Sys2Proof.Machine
end

