-- ==== Sys2Proof/Machine/Flags.lean ====
section
/-! DEFINITION. Machine/Flags.lean: the event register, the IRQ output, the STATUS word and the response
word (10_state.md R27 to R30, 30_encoding.md R82, R84). -/

namespace Sys2Proof.Machine

/-- The eleven events, one per bit of EVT (60_exceptions.md R341). -/
inductive Event where
  | connect | timeout | negfail | framing | rxovf | createfail | detect | dialdone | cdlost | switch | cmderr
deriving DecidableEq, Repr

/-- The bit of EVT an event sets (R27). -/
def Event.bit : Event → Nat
  | .connect => 0
  | .timeout => 1
  | .negfail => 2
  | .framing => 3
  | .rxovf => 4
  | .createfail => 5
  | .detect => 6
  | .dialdone => 7
  | .cdlost => 8
  | .switch => 9
  | .cmderr => 10

/-- EVT with only the bit of `e` set. -/
def Event.mask (e : Event) : BitVec 11 := BitVec.twoPow 11 e.bit

/-- `event(NAME)`: set the bit and continue (00_scope.md R16). -/
def event (e : Event) (s : State) : State := { s with evt := s.evt ||| e.mask }

/-- The IRQ output, the level `(EVT & IEN) != 0` (R28, R353). -/
def irq (s : State) : Bool := s.evt &&& s.ctl.ien != 0

/-- The command errors and their codes (30_encoding.md R84, 60_exceptions.md R351). -/
inductive CmdError where
  | illegal | busy | range | badkey | full
deriving DecidableEq, Repr

/-- The code of a command error (R84). -/
def CmdError.code : CmdError → BitVec 7
  | .illegal => 1
  | .busy => 2
  | .range => 3
  | .badkey => 4
  | .full => 5

/-- The response of a command that completed: ERR = 0, code = 0, the value in bits 23:0 (R82). -/
def okWord (v : Value) : Word := 0#8 ++ v

/-- The response of a failing command, `0x80000000 | code << 24` (R84). -/
def errWord (e : CmdError) : Word := 1#1 ++ e.code ++ 0#24

/-- DP's identifier (R24). -/
def Datapump.id : Datapump → BitVec 3
  | .none => 0
  | .dialer => 1
  | .detector => 2
  | .fsk => 3
  | .psk => 4

/-- NEXT's identifier (R24). -/
def Target.id : Target → BitVec 3
  | .dp d => d.id
  | .invalid => 7

/-- DLSTATE's value (R25). -/
def DialState.id : DialState → BitVec 2
  | .wait => 0
  | .dial => 1
  | .finished => 2

/-- PH's value (R41). -/
def Phase.id : Phase → BitVec 2
  | .raw => 0
  | .scrambled => 1
  | .data => 2
  | .failed => 3

/-- TXM's value (R41). -/
def TxMode.id : TxMode → BitVec 2
  | .raw => 0
  | .scrambled => 1
  | .data => 2

/-- The STATUS word, field by field from bit 20 down (R30). -/
def statusWord (s : State) : Value :=
  0#3 ++ s.det.detected ++ BitVec.ofBool s.fsk.fcd ++ s.neg.txm.id ++ s.neg.ph.id ++ s.dial.dlstate.id ++
    BitVec.ofBool s.sched.offhook ++ BitVec.ofBool s.sched.connect ++ BitVec.ofBool s.sched.dir.bit ++
    BitVec.ofBool s.sched.pend ++ s.sched.next.id ++ s.sched.dp.id

end Sys2Proof.Machine
end

