-- ==== Sys2Proof/Machine/Ops.lean ====
section
/-! DEFINITION. Machine/Ops.lean: the named operations over memories, FIFOs and the oscillator bank, and
the one shared operation that raises a command error, with the acknowledgement of events beside it. -/

namespace Sys2Proof.Machine

/-! ### Memories (20_memory.md R60, R63) -/

/-- `MemRead(SPACE[i], w)`; an unlisted cell reads as zero, its reset contents (10_state.md R48). -/
def Memory.read {w : Nat} : Memory w → Nat → BitVec w
  | [], _ => 0
  | (j, v) :: rest, i => if j = i then v else Memory.read rest i

/-- `MemWrite(SPACE[i], w, v)`; keeps the canonical form. -/
def Memory.write {w : Nat} : Memory w → Nat → BitVec w → Memory w
  | [], i, v => if v = 0 then [] else [(i, v)]
  | (j, u) :: rest, i, v =>
    if i < j then (if v = 0 then (j, u) :: rest else (i, v) :: (j, u) :: rest)
    else if i = j then (if v = 0 then rest else (i, v) :: rest)
    else (j, u) :: Memory.write rest i v

/-- Every listed index is at least `lo` and below `cells`, indices strictly rise, and no listed cell is
zero. -/
def Memory.wfFrom {w : Nat} (cells : Nat) : Nat → Memory w → Bool
  | _, [] => true
  | lo, (j, v) :: rest => lo ≤ j && j < cells && v != 0 && Memory.wfFrom cells (j + 1) rest

/-- The canonical form of a space of `cells` cells. -/
def Memory.wf {w : Nat} (cells : Nat) (m : Memory w) : Bool := Memory.wfFrom cells 0 m

/-- `fifo_push(F, b)`: none if the ring is full (R63). -/
def Fifo.push (f : Fifo) (b : Byte) : Option Fifo :=
  if f.head + 1 = f.tail then none
  else some { f with cells := f.cells.write f.head.toNat b, head := f.head + 1 }

/-- `fifo_pop(F)`: none if the ring is empty (R63). -/
def Fifo.pop (f : Fifo) : Option (Byte × Fifo) :=
  if f.head = f.tail then none
  else some (f.cells.read f.tail.toNat, { f with tail := f.tail + 1 })

/-- `fifo_count(F)` = (HEAD - TAIL) mod 256 (R63). -/
def Fifo.count (f : Fifo) : BitVec 8 := f.head - f.tail

/-- INBUF[i] as a signed sample (R60). -/
def inSample (i : Nat) (s : State) : Int := (s.inbuf.read i).toInt

/-- `INBUF[i] <- sext_16(b)` (R314). -/
def setIn (i : Nat) (b : BitVec 16) (s : State) : State := { s with inbuf := s.inbuf.write i b }

/-- `OUTBUF[i] <- y` for a sample `y` (R60). -/
def setOut (i : Nat) (y : Int) (s : State) : State := { s with outbuf := s.outbuf.write i (lo16 y) }

/-! ### The cosine table and the oscillator bank (40_oscillator.md) -/

/-- QW[i] for 0 <= i <= 1024 (R101). -/
def quarterCos (i : Nat) : Int := ((cfg.quarterWave.getD (i / 16) []).getD (i % 16) 0 : Nat)

/-- COS[i] for 0 <= i <= 2048 (R101, first two lines). -/
def halfCos (i : Nat) : Int := if i ≤ 1024 then quarterCos i else -quarterCos (2048 - i)

/-- COS[i] (R101). -/
def cosAt (i : BitVec 12) : Int := if i.toNat ≤ 2048 then halfCos i.toNat else halfCos (4096 - i.toNat)

/-- SIN(p) = COS[(p + 3072) mod 4096] (R103). -/
def sinAt (p : BitVec 12) : Int := cosAt (p + 3072)

/-- `inc(f)`, the increment of a frequency in hertz (R104); the machine never computes it. -/
def incOf (f : Nat) : Nat := (f * 4096 + 4000) / 8000

/-- `osc_cos(i)` (R112). -/
def oscCos (i : Fin 12) (s : State) : Int := cosAt s.osc[i].phase

/-- `osc_sin(i)` (R112). -/
def oscSin (i : Fin 12) (s : State) : Int := sinAt s.osc[i].phase

/-- Write oscillator `i`. -/
def setOsc (i : Fin 12) (o : Osc) (s : State) : State := { s with osc := s.osc.set i.val o i.isLt }

/-- `OSC[i].PHASE <- p` (R106). -/
def setPhase (i : Fin 12) (p : BitVec 12) (s : State) : State := setOsc i { s.osc[i] with phase := p } s

/-- `OSC[i].INC <- c` (R107). -/
def setInc (i : Fin 12) (c : BitVec 12) (s : State) : State := setOsc i { s.osc[i] with inc := c } s

/-- `osc_adv(i)`: `PHASE <- (PHASE + INC) mod 4096` (R112). -/
def oscAdv (i : Fin 12) (s : State) : State := setPhase i (s.osc[i].phase + s.osc[i].inc) s

/-- `Σ_{k=0..n-1} D[k] * COS[(p - k*c) mod 4096]` (R178, R205). -/
def corrCos {m : Nat} (n : Nat) (d : Vector Int m) (p c : BitVec 12) : Int :=
  sigma n fun k => tap d k * cosAt (p - BitVec.ofNat 12 k * c)

/-- `Σ_{k=0..n-1} D[k] * SIN((p - k*c) mod 4096)` (R178, R205). -/
def corrSin {m : Nat} (n : Nat) (d : Vector Int m) (p c : BitVec 12) : Int :=
  sigma n fun k => tap d k * sinAt (p - BitVec.ofNat 12 k * c)

/-! ### The sample loop of a block (48_scheduler_host.md R295) -/

/-- How the turn of a datapump at one sample ends. -/
inductive Turn where
  /-- The datapump stops before this sample: no sample is produced at this index. -/
  | stop
  /-- The sample is produced and the datapump stops after it. -/
  | last
  /-- The sample is produced and the next one follows. -/
  | more
deriving DecidableEq, Repr

/-- `for i in 0..n-1` of a datapump, `left` samples from index `i` on; the count of samples produced is the
index it stops at (R295). -/
def sampleLoop (turn : Nat → State → Turn × State) : Nat → Nat → State → Nat × State
  | 0, i, s => (i, s)
  | left + 1, i, s =>
    match turn i s with
    | (.stop, t) => (i, t)
    | (.last, t) => (i + 1, t)
    | (.more, t) => sampleLoop turn left (i + 1) t

/-! ### Completing a command, raising a command error, acknowledging events -/

/-- What a command answers. -/
abbrev Result : Type := Host.Outcome State Fault Refusal

/-- The command completes with response value `v` (30_encoding.md R82). -/
def done (v : Value) (s : State) : Result := .next { s with resp := some (okWord v) }

/-- `raise CmdError(code)`, the machine's one exception: EVT.CMDERR is set, the error response is
returned and nothing else changes (30_encoding.md R84, 60_exceptions.md R351, R355). -/
def raise (e : CmdError) (s : State) : Result :=
  .next { event .cmderr s with resp := some (errWord e) }

/-- The acknowledgement of events, the machine's nearest thing to a return (60_exceptions.md R356): all
bits of EVT are cleared together (10_state.md R27). -/
def acknowledge (s : State) : State := { s with evt := 0 }

/-- A direct command: CmdError(BUSY) unless DP = NONE (60_exceptions.md R350). -/
def direct (s : State) (body : Result) : Result := if s.sched.dp = .none then body else raise .busy s

/-- A check on an operand: CmdError(RANGE) where the operand has no legal value (60_exceptions.md R351). -/
def inRange {α : Type} (operand : Option α) (s : State) (body : α → Result) : Result :=
  match operand with
  | some x => body x
  | none => raise .range s

end Sys2Proof.Machine
end

