-- ==== Sys2Proof/Machine/Oscillator.lean ====
section
/-! DEFINITION. Machine/Oscillator.lean: the six oscillator commands (40_oscillator.md R105 to R111). -/

namespace Sys2Proof.Machine

/-- The checks common to the oscillator commands, BUSY then RANGE (R105). -/
def withOsc (a : BitVec 8) (s : State) (body : Fin 12 → Result) : Result :=
  direct s (inRange (oscOperand a) s body)

/-- OSCP a, b: `OSC[a].PHASE <- b[11:0]` (R106). -/
def execOscp (a : BitVec 8) (b : BitVec 16) (s : State) : Result :=
  withOsc a s fun i => done 0 (setPhase i (bLow12 b) s)

/-- OSCI a, b: `OSC[a].INC <- b[11:0]` (R107). -/
def execOsci (a : BitVec 8) (b : BitVec 16) (s : State) : Result :=
  withOsc a s fun i => done 0 (setInc i (bLow12 b) s)

/-- OSCA a: advance once, answer the new PHASE (R108). -/
def execOsca (a : BitVec 8) (s : State) : Result :=
  withOsc a s fun i =>
    let t := oscAdv i s
    done (t.osc[i].phase.setWidth 24) t

/-- OSCC a: answer `lo16(osc_cos(a))` (R109). -/
def execOscc (a : BitVec 8) (s : State) : Result :=
  withOsc a s fun i => done ((lo16 (oscCos i s)).setWidth 24) s

/-- OSCS a: answer `lo16(osc_sin(a))` (R110). -/
def execOscs (a : BitVec 8) (s : State) : Result :=
  withOsc a s fun i => done ((lo16 (oscSin i s)).setWidth 24) s

/-- OSCR a: answer `PHASE | INC << 12` (R111). -/
def execOscr (a : BitVec 8) (s : State) : Result :=
  withOsc a s fun i => done (s.osc[i].inc ++ s.osc[i].phase) s

end Sys2Proof.Machine
end

