-- ==== Sys2Proof/Machine/Registers.lean ====
section
/-! DEFINITION. Machine/Registers.lean: the S register, control register, STATUS and EVT commands
(48_scheduler_host.md R301 to R306). -/

namespace Sys2Proof.Machine

/-- The write of a control register: the low bits of `b` up to its width (10_state.md R35). -/
def writeControl (r : ControlReg) (b : BitVec 16) (c : Control) : Control :=
  match r with
  | .mode => { c with mode := bLow2 b }
  | .ien => { c with ien := bLow11 b }
  | .detmask => { c with detmask := bLow4 b }
  | .detfrq k => { c with detfrq := c.detfrq.set k.val (bLow12 b) k.isLt }

/-- The read of a control register, zero-extended (R304). -/
def readControl (r : ControlReg) (c : Control) : Value :=
  match r with
  | .mode => c.mode.setWidth 24
  | .ien => c.ien.setWidth 24
  | .detmask => c.detmask.setWidth 24
  | .detfrq k => c.detfrq[k].setWidth 24

/-- WRS a, b: `S[a] <- b[7:0]` (R301). -/
def execWrs (a : BitVec 8) (b : BitVec 16) (s : State) : Result :=
  inRange (sOperand a) s fun i => done 0 { s with sreg := s.sreg.set i.val (bLow8 b) i.isLt }

/-- RDS a: the value is S[a] (R302). -/
def execRds (a : BitVec 8) (s : State) : Result :=
  inRange (sOperand a) s fun i => done (s.sreg[i].setWidth 24) s

/-- WRC a, b: BUSY for every index but 1 while active, then RANGE, then the write (R303). -/
def execWrc (a : BitVec 8) (b : BitVec 16) (s : State) : Result :=
  if a ≠ 1 ∧ s.sched.dp ≠ .none then raise .busy s
  else inRange (ctlOperand a) s fun r => done 0 { s with ctl := writeControl r b s.ctl }

/-- RDC a: the value is the register of index a (R304). -/
def execRdc (a : BitVec 8) (s : State) : Result :=
  inRange (ctlOperand a) s fun r => done (readControl r s.ctl) s

/-- RDST: the value is STATUS (R306). -/
def execRdst (s : State) : Result := done (statusWord s) s

/-- RDEV: the value is EVT, which is then cleared (R305). -/
def execRdev (s : State) : Result := done (s.evt.setWidth 24) (acknowledge s)

end Sys2Proof.Machine
end

