-- ==== Sys2Proof/Machine/Detector.lean ====
section
/-! DEFINITION. Machine/Detector.lean: the tone detector and its commands (41_tone_detector.md). -/

namespace Sys2Proof.Machine

/-- What `det_step` returns (R124). -/
inductive DetResult where
  | cont | window | hit | timeout
deriving DecidableEq, Repr

/-- `code(r)` of DETS (R129). -/
def DetResult.code : DetResult → BitVec 4
  | .cont => 0
  | .window => 1
  | .hit => 2
  | .timeout => 3

/-- The oscillator of slot `k`, OSC[1+k] (R122). -/
def slotOsc (k : Fin 4) : Fin 12 := ⟨1 + k.val, by omega⟩

/-- `for k in 0..3`, in that order. -/
def forSlots (f : Fin 4 → State → State) (s : State) : State := f 3 (f 2 (f 1 (f 0 s)))

/-- `DI[k] <- 0 ; DQ[k] <- 0 ; OSC[1+k].PHASE <- 0` (R123, R125, R150). -/
def clearSlot (k : Fin 4) (s : State) : State :=
  let t := setPhase (slotOsc k) 0 s
  { t with det := { t.det with di := t.det.di.set k.val 0 k.isLt, dq := t.det.dq.set k.val 0 k.isLt } }

/-- The four slots cleared, then `DE <- 0 ; WCNT <- 0` (R123, R125, R150). -/
def clearWindow (s : State) : State :=
  let t := forSlots clearSlot s
  { t with det := { t.det with de := 0, wcnt := 0 } }

/-- `OSC[1+k].INC <- DETFRQk` (R123). -/
def loadSlotInc (k : Fin 4) (s : State) : State := setInc (slotOsc k) s.ctl.detfrq[k] s

/-- `det_init()`; TMO is not written (R123). -/
def detInit (s : State) : State :=
  let t := clearWindow (forSlots loadSlotInc s)
  { t with det := { t.det with detected := 0 } }

/-- One sample's correlation of slot `k` with scaled sample `v`, then the slot's advance (R124). -/
def correlateSlot (v : Int) (k : Fin 4) (s : State) : State :=
  oscAdv (slotOsc k)
    { s with det := { s.det with
        di := s.det.di.set k.val (s.det.di[k] + v * oscCos (slotOsc k) s) k.isLt
        dq := s.det.dq.set k.val (s.det.dq[k] + v * oscSin (slotOsc k) s) k.isLt } }

/-- The correlation energy P of slot `k` at a window end (R125). -/
def slotEnergy (k : Fin 4) (d : Detector) : Int :=
  let i := asr d.di[k] Param.sumShift
  let q := asr d.dq[k] Param.sumShift
  i * i + q * q

/-- Slot `k` is detected: the block energy is over the floor and P is over the multiple (R125). -/
def slotDetected (k : Fin 4) (d : Detector) : Bool :=
  decide (Param.detFloor < d.de) && decide (((Param.detRatio * d.de : Nat) : Int) < slotEnergy k d)

/-- The mask `m` of a window end, slot `k` in bit `k` (R125). -/
def windowMask (d : Detector) : BitVec 4 :=
  BitVec.ofBool (slotDetected 3 d) ++ BitVec.ofBool (slotDetected 2 d) ++
    BitVec.ofBool (slotDetected 1 d) ++ BitVec.ofBool (slotDetected 0 d)

/-- `window_end()` (R125). -/
def windowEnd (s : State) : DetResult × State :=
  let m := windowMask s.det
  let t := clearWindow { s with det := { s.det with detected := m } }
  (if m &&& s.ctl.detmask != 0 then .hit else .window, t)

/-- The accumulation of one scaled sample `v`: the four slots, then DE and WCNT (R124). -/
def accumulate (v : Int) (s : State) : State :=
  let t := forSlots (correlateSlot v) s
  { t with det := { t.det with de := t.det.de + (v * v).toNat, wcnt := t.det.wcnt + 1 } }

/-- `det_step(x)` (R124, R126). -/
def detStep (x : Int) (s : State) : DetResult × State :=
  if s.det.tmo = 0 then (.timeout, s)
  else
    let t := accumulate (asr x Param.detShift) s
    let (r, u) := if t.det.wcnt = Param.detWindow then windowEnd t else (.cont, t)
    (r, { u with det := { u.det with tmo := u.det.tmo - 1 } })

/-- DETI: `det_init()` (R127). -/
def execDeti (s : State) : Result := direct s (done 0 (detInit s))

/-- DETT a, b: `TMO <- a ++ b` (R128). -/
def execDett (a : BitVec 8) (b : BitVec 16) (s : State) : Result :=
  direct s (done 0 { s with det := { s.det with tmo := (concat24 a b).toNat } })

/-- DETS b: one detector step; the value is `code(r) | DETECTED << 4` (R129). -/
def execDets (b : BitVec 16) (s : State) : Result :=
  direct s
    (let (r, t) := detStep (sampleOf b) s
     done (0#16 ++ t.det.detected ++ r.code) t)

/-- DETR: the value is `DETECTED | WCNT << 4` (R130). -/
def execDetr (s : State) : Result :=
  done ((BitVec.ofNat 20 s.det.wcnt) ++ s.det.detected) s

end Sys2Proof.Machine
end

