-- ==== Sys2Proof/Machine/Dtmf.lean ====
section
/-! DEFINITION. Machine/Dtmf.lean: the DTMF generator and its commands (42_dtmf_dialer.md section 1). -/

namespace Sys2Proof.Machine

/-- `dtmf_decode(c)`: (row, column) of a key character, none for every other byte (R142). -/
def dtmfDecode (c : Byte) : Option (Fin 4 × Fin 4) :=
  match c.toNat with
  | 0x31 => some (0, 0)
  | 0x32 => some (0, 1)
  | 0x33 => some (0, 2)
  | 0x41 => some (0, 3)
  | 0x34 => some (1, 0)
  | 0x35 => some (1, 1)
  | 0x36 => some (1, 2)
  | 0x42 => some (1, 3)
  | 0x37 => some (2, 0)
  | 0x38 => some (2, 1)
  | 0x39 => some (2, 2)
  | 0x43 => some (2, 3)
  | 0x2A => some (3, 0)
  | 0x30 => some (3, 1)
  | 0x23 => some (3, 2)
  | 0x44 => some (3, 3)
  | _ => none

/-- `dtmf_key(row, col)` (R143). -/
def dtmfKey (row col : Fin 4) (s : State) : State :=
  let t := setOsc 6 ⟨0, cfg.dtmfCol[col]⟩ (setOsc 5 ⟨0, cfg.dtmfRow[row]⟩ s)
  { t with dtrem := Param.dtmfOn }

/-- `dtmf_sample()` (R144). -/
def dtmfSample (s : State) : Int × State :=
  if s.dtrem = 0 then (0, s)
  else
    let y := asr (oscCos 5 s + oscCos 6 s) Param.dtmfShift
    let t := oscAdv 6 (oscAdv 5 s)
    (y, { t with dtrem := t.dtrem - 1 })

/-- DTK b: BUSY, then BADKEY, then `dtmf_key` (R145). -/
def execDtk (b : BitVec 16) (s : State) : Result :=
  direct s
    (match dtmfDecode (bLow8 b) with
     | some (row, col) => done 0 (dtmfKey row col s)
     | none => raise .badkey s)

/-- DTS: one generator sample; the value is `lo16(y) | done << 16`, done taken before the step (R146). -/
def execDts (s : State) : Result :=
  direct s
    (let fin := decide (s.dtrem = 0)
     let (y, t) := dtmfSample s
     done (0#7 ++ BitVec.ofBool fin ++ lo16 y) t)

end Sys2Proof.Machine
end

