-- ==== Sys2Proof/Machine/Dialer.lean ====
section
/-! DEFINITION. Machine/Dialer.lean: the dialer datapump and the dial-string commands
(42_dtmf_dialer.md section 2, 48_scheduler_host.md R309, R310). -/

namespace Sys2Proof.Machine

/-- `request(x)`: `NEXT <- x ; PEND <- 1` (48_scheduler_host.md R291). -/
def request (x : Target) (s : State) : State := { s with sched := { s.sched with next := x, pend := true } }

/-- `dl_finish()` (R151). -/
def dlFinish (s : State) : State :=
  request (.dp .detector) (event .dialdone { s with dial := { s.dial with dlstate := .finished } })

/-- The start of one token (R150): a key, a pause, or the end of dialing at a malformed character. -/
def dlToken (c : Byte) (s : State) : State :=
  match dtmfDecode c with
  | some (row, col) => dtmfKey row col { s with dial := { s.dial with dlstate := .dial } }
  | none =>
    if c = 0x77 ∨ c = 0x2C then
      clearWindow { s with
        dial := { s.dial with dlstate := .wait }
        det := { s.det with tmo := s.dial.dls8.toNat * Param.fs } }
    else dlFinish s

/-- `dl_fetch()` (R150). -/
def dlFetch (s : State) : State :=
  if s.dial.diallen ≤ s.dial.dlpos then dlFinish s
  else
    dlToken (s.dial.dialstr.read s.dial.dlpos) { s with dial := { s.dial with dlpos := s.dial.dlpos + 1 } }

/-- Sample `i` of the WAIT loop of `dialer_process` (R149). -/
def dialerWaitTurn (i : Nat) (s : State) : Turn × State :=
  let (r, t) := detStep (inSample i s) s
  if r = .timeout then (.stop, dlFetch t)
  else
    let u := setOut i 0 t
    (.more, if r = .hit then event .detect u else u)

/-- Sample `i` of the DIAL loop of `dialer_process` (R149). -/
def dialerToneTurn (i : Nat) (s : State) : Turn × State :=
  if s.dtrem = 0 then (.stop, s)
  else
    let (y, t) := dtmfSample s
    (.more, setOut i y t)

/-- `dialer_process(n)` (R149). -/
def dialerProcess (n : Nat) (s : State) : Nat × State :=
  match s.dial.dlstate with
  | .finished => (0, s)
  | .wait => sampleLoop dialerWaitTurn n 0 s
  | .dial => if s.dtrem = 0 then (0, dlFetch s) else sampleLoop dialerToneTurn n 0 s

/-- DIALC b: BUSY while DP = DIALER, then FULL, then append `b[7:0]`; the value is DIALLEN after
(48_scheduler_host.md R309). -/
def execDialc (b : BitVec 16) (s : State) : Result :=
  if s.sched.dp = .dialer then raise .busy s
  else if s.dial.diallen = Param.dialMax then raise .full s
  else
    done (BitVec.ofNat 24 (s.dial.diallen + 1))
      { s with dial := { s.dial with
          dialstr := s.dial.dialstr.write s.dial.diallen (bLow8 b)
          diallen := s.dial.diallen + 1 } }

/-- DIALX: BUSY while DP = DIALER, then `DIALLEN <- 0` (48_scheduler_host.md R310). -/
def execDialx (s : State) : Result :=
  if s.sched.dp = .dialer then raise .busy s
  else done 0 { s with dial := { s.dial with diallen := 0 } }

end Sys2Proof.Machine
end

