-- ==== Sys2Proof/Machine/Framing.lean ====
section
/-! DEFINITION. Machine/Framing.lean: the asynchronous framing unit, the byte FIFO commands and the bit
queue commands (47_framing_fifo.md). -/

namespace Sys2Proof.Machine

/-- `bq_init()` (R261). -/
def bqInit (s : State) : State := { s with bq := ⟨0, 0, 0, 0⟩ }

/-- `frame(c) = 0 ++ rev8(c) ++ 1` (R262). -/
def frame (c : Byte) : BitVec 10 := 0#1 ++ rev8 c ++ 1#1

/-- `2^k - 1` as a mask. -/
def lowMask (k : Nat) : BitVec 32 := BitVec.ofNat 32 (2 ^ k - 1)

/-- `while RXC > 0 and RXB[RXC-1] = 1: RXC <- RXC - 1` (R263). -/
def dropMark (b : BitVec 32) : Nat → Nat
  | 0 => 0
  | c + 1 => if b.getLsbD c then dropMark b c else c + 1

/-- Append one received bit and drop mark at the head; where ten bits are then held, they are the frame
and leave the buffer (R263). -/
def rxAppend (bit : Bool) (q : BitQ) : Option (BitVec 10) × BitQ :=
  let b := (q.rxb <<< 1) ||| (BitVec.ofBool bit).setWidth 32
  let c := dropMark b (q.rxc + 1)
  if Param.frameBits ≤ c then (some (b.setWidth 10), { q with rxb := b &&& lowMask 0, rxc := 0 })
  else (none, { q with rxb := b &&& lowMask c, rxc := c })

/-- A received frame: FRAMING if its stop bit is 0, then the byte to RXFIFO, or RXOVF if it is full
(R263). -/
def rxDeliver (fr : BitVec 10) (s : State) : State :=
  let t := if fr.getLsbD 0 then s else event .framing s
  match t.rxfifo.push (rev8 (fr.extractLsb' 1 8)) with
  | some f => { t with rxfifo := f }
  | none => event .rxovf t

/-- One bit of `bq_rx_put`: the number of bytes delivered (0 or 1) and the state after (R263). -/
def rxBit (bit : Bool) (s : State) : Nat × State :=
  match rxAppend bit s.bq with
  | (some fr, q) => (1, rxDeliver fr { s with bq := q })
  | (none, q) => (0, { s with bq := q })

/-- `bq_rx_put(n, v)`: bits v[n-1] down to v[0]; the number of bytes delivered and the state after
(R263). -/
def bqRxPut : Nat → BitVec 16 → State → Nat × State
  | 0, _, s => (0, s)
  | j + 1, v, s =>
    let (d, t) := rxBit (v.getLsbD j) s
    let (e, u) := bqRxPut j v t
    (d + e, u)

/-- One turn of the transmit framer's loop: a frame from TXFIFO, or exactly the missing ones (R264). -/
def txFill (n : Nat) (s : State) : State :=
  match s.txfifo.pop with
  | some (c, f) =>
    { s with
      txfifo := f
      bq := { s.bq with txb := (s.bq.txb <<< 10) ||| (frame c).setWidth 32, txc := s.bq.txc + Param.frameBits } }
  | none =>
    let k := n - s.bq.txc
    { s with bq := { s.bq with txb := (s.bq.txb <<< k) ||| lowMask k, txc := n } }

/-- `while TXC < n` (R264). A turn adds at least one bit, so `n` turns always suffice (log entry 13). -/
def txFillTo (n : Nat) : Nat → State → State
  | 0, s => s
  | turns + 1, s => if s.bq.txc < n then txFillTo n turns (txFill n s) else s

/-- `bq_tx_get(n)`, 1 <= n <= 16: the n oldest bits as an n-bit value (R264). -/
def bqTxGet (n : Nat) (s : State) : BitVec 16 × State :=
  let t := txFillTo n n s
  let c := t.bq.txc - n
  let r := (t.bq.txb >>> c) &&& lowMask n
  (r.setWidth 16, { t with bq := { t.bq with txc := c, txb := t.bq.txb &&& lowMask c } })

/-- TXCH b: FULL if TXFIFO holds 255 bytes, else push `b[7:0]` (R269). -/
def execTxch (b : BitVec 16) (s : State) : Result :=
  match s.txfifo.push (bLow8 b) with
  | some f => done 0 { s with txfifo := f }
  | none => raise .full s

/-- RXCH: pop one byte; the value is `1 << 8 | c`, or 0 if RXFIFO is empty (R270). -/
def execRxch (s : State) : Result :=
  match s.rxfifo.pop with
  | some (c, f) => done (0#15 ++ 1#1 ++ c) { s with rxfifo := f }
  | none => done 0 s

/-- BQI: `bq_init()` (R266). -/
def execBqi (s : State) : Result := direct s (done 0 (bqInit s))

/-- BQP a, b: BUSY, then RANGE, then `bq_rx_put(a, b[a-1:0])` (R267). -/
def execBqp (a : BitVec 8) (b : BitVec 16) (s : State) : Result :=
  direct s (inRange (bitCountOperand a) s fun n =>
    let (d, t) := bqRxPut n b s
    done (BitVec.ofNat 24 d) t)

/-- BQG a: BUSY, then RANGE, then `bq_tx_get(a)` (R268). -/
def execBqg (a : BitVec 8) (s : State) : Result :=
  direct s (inRange (bitCountOperand a) s fun n =>
    let (r, t) := bqTxGet n s
    done (r.setWidth 24) t)

/-- FFST: the value is the RX count, and the TX count from bit 8 (R271). -/
def execFfst (s : State) : Result := done (0#8 ++ s.txfifo.count ++ s.rxfifo.count) s

/-- FFCL: all four pointers to 0, the cells unchanged (R272). -/
def execFfcl (s : State) : Result :=
  done 0 { s with
    rxfifo := { s.rxfifo with head := 0, tail := 0 }
    txfifo := { s.txfifo with head := 0, tail := 0 } }

end Sys2Proof.Machine
end

