-- ==== Sys2Proof/Machine/Timing.lean ====
section
/-! DEFINITION. Machine/Timing.lean: the symbol-timing unit and its commands (43_symbol_timing_fsk.md
section 1). -/

namespace Sys2Proof.Machine

/-- `tim_init(cur, rate)` (R166). -/
def timInit (cur : BitVec 2) (rate : Nat) : Tim := ⟨cur, cur, 0, 0, rate⟩

/-- The candidate's bookkeeping for a value different from TCUR (R167). -/
def timCandidate (v : BitVec 2) (t : Tim) : Tim :=
  if v = t.tcand then { t with tacc := t.tacc + t.trate } else { t with tcand := v, tacc := t.trate }

/-- The bit-duration counter and the re-emission test that end a step with no confirmed transition
(R167). -/
def timPeriod (t : Tim) : Bool × Tim :=
  let b := min (t.bacc + t.trate) Param.baccMax
  if Param.fs ≤ b ∧ t.tacc = 0 then (true, { t with bacc := b - Param.fs })
  else (false, { t with bacc := b })

/-- `tim_step(v)`: whether a value is emitted, and the unit after; the value is TCUR after (R167). -/
def timStep (v : BitVec 2) (t : Tim) : Bool × Tim :=
  if v ≠ t.tcur then
    let u := timCandidate v t
    if Param.fs ≤ 2 * u.tacc then (true, { u with tcur := v, tacc := 0, bacc := 0 })
    else timPeriod u
  else timPeriod { t with tacc := 0, tcand := t.tcur }

/-- TIMI a, b: BUSY, then RANGE, then `tim_init(a[1:0], b)` (R169). -/
def execTimi (a : BitVec 8) (b : BitVec 16) (s : State) : Result :=
  direct s (inRange (rateOperand b) s fun rate => done 0 { s with tim := timInit (low2 a) rate })

/-- TIMS a: one step; the value is `e | val << 1` (R170). -/
def execTims (a : BitVec 8) (s : State) : Result :=
  direct s
    (let (e, t) := timStep (low2 a) s.tim
     done (0#21 ++ t.tcur ++ BitVec.ofBool e) { s with tim := t })

end Sys2Proof.Machine
end

