-- ==== Sys2Proof/Machine/Fsk.lean ====
section
/-! DEFINITION. Machine/Fsk.lean: the FSK modem and its commands (43_symbol_timing_fsk.md section 2). -/

namespace Sys2Proof.Machine

/-- `FSK_INC[ch][bit]` (R175). -/
def fskInc (ch : Fin 2) (bit : Bool) : BitVec 12 := if bit then cfg.fskMark[ch] else cfg.fskSpace[ch]

/-- `fsk_init(d)` (R176). -/
def fskInit (d : Direction) (s : State) : State :=
  let t := setOsc 9 ⟨0, fskInc d.rxChannel false⟩
    (setOsc 8 ⟨0, fskInc d.rxChannel true⟩ (setOsc 7 ⟨0, fskInc d.txChannel true⟩ s))
  { t with
    fsk := ⟨d, true, Param.fs, Vector.replicate 27 0, false, 0, s.sreg[9], s.sreg[10]⟩
    tim := timInit 1 Param.fskRate }

/-- The first part of `fsk_mod`: at a bit boundary pull the next bit (R177). -/
def fskPull (s : State) : State :=
  if Param.fs ≤ s.fsk.ftxacc then
    let (r, t) := bqTxGet 1 { s with fsk := { s.fsk with ftxacc := s.fsk.ftxacc - Param.fs } }
    { t with fsk := { t.fsk with ftxbit := r.getLsbD 0 } }
  else s

/-- `fsk_mod()` (R177). -/
def fskMod (s : State) : Int × State :=
  let t := fskPull s
  let u := setInc 7 (fskInc t.fsk.fdir.txChannel t.fsk.ftxbit) t
  let y := asr (oscCos 7 u) Param.txShift
  let w := oscAdv 7 u
  (y, { w with fsk := { w.fsk with ftxacc := w.fsk.ftxacc + Param.fskRate } })

/-- What `carrier_update` returns (R179). -/
inductive CarrierEvent where
  | none | cd | lost
deriving DecidableEq, Repr

/-- `carrier_update(T)` (R179). -/
def carrierUpdate (energy : Int) (f : Fsk) : CarrierEvent × Fsk :=
  let isPresent := decide ((Param.fskCdFloor : Int) < energy)
  if f.fcd then
    let c := if isPresent then 0 else f.fcdcnt + 1
    if !isPresent && decide (f.cdoff.toNat * Param.cdUnit ≤ c) then
      (.lost, { f with fcd := false, fcdcnt := 0 })
    else (.none, { f with fcdcnt := c })
  else
    let c := if isPresent then f.fcdcnt + 1 else 0
    if isPresent && decide (f.cdon.toNat * Param.cdUnit ≤ c) then
      (.cd, { f with fcd := true, fcdcnt := 0 })
    else (.none, { f with fcdcnt := c })

/-- The correlation energy of the receive line against oscillator `o` at its present phase (R178). -/
def fskEnergy (o : Fin 12) (s : State) : Int :=
  let i := asr (corrCos Param.fskL s.fsk.fx s.osc[o].phase s.osc[o].inc) Param.sumShift
  let q := asr (corrSin Param.fskL s.fsk.fx s.osc[o].phase s.osc[o].inc) Param.sumShift
  i * i + q * q

/-- The receive line after sample `x`: `FX[0] <- asr(x, 4)` behind the shift (R178). -/
def fskShift (x : Int) (s : State) : State :=
  { s with fsk := { s.fsk with fx := shiftIn (asr x Param.fskRxShift) s.fsk.fx } }

/-- `fsk_dem(x)`: whether TIM emits (the value is TCUR after), the carrier event, the state after
(R178). -/
def fskDem (x : Int) (s : State) : Bool × CarrierEvent × State :=
  let t := fskShift x s
  let mark := fskEnergy 8 t
  let space := fskEnergy 9 t
  let u := oscAdv 9 (oscAdv 8 t)
  let bit := decide (0 ≤ mark - space)
  let (ev, f) := carrierUpdate (mark + space) u.fsk
  let (e, m) := timStep ((BitVec.ofBool bit).setWidth 2) u.tim
  let w := { u with fsk := f, tim := m }
  if e && f.fcd then (e, ev, (bqRxPut 1 (m.tcur.setWidth 16) w).2) else (e, ev, w)

/-- FSKI a: `fsk_init(a[0])` (R180). -/
def execFski (a : BitVec 8) (s : State) : Result :=
  direct s (done 0 (fskInit (Direction.ofBit (bit0 a)) s))

/-- FSKM: one modulator sample (R181). -/
def execFskm (s : State) : Result :=
  direct s
    (let (y, t) := fskMod s
     done ((lo16 y).setWidth 24) t)

/-- FSKD b: one demodulator sample; the value is `e | val << 1 | FCD << 2` (R182). -/
def execFskd (b : BitVec 16) (s : State) : Result :=
  direct s
    (let (e, _, t) := fskDem (sampleOf b) s
     done ((BitVec.ofBool e).setWidth 24 ||| (t.tim.tcur.setWidth 24 <<< 1) |||
       ((BitVec.ofBool t.fsk.fcd).setWidth 24 <<< 2)) t)

end Sys2Proof.Machine
end

