-- ==== Sys2Proof/Machine/Scrambler.lean ====
section
/-! DEFINITION. Machine/Scrambler.lean: the self-synchronizing scrambler and descrambler and their
commands (45_scrambler.md). -/

namespace Sys2Proof.Machine

/-- `scr_init()` (R227). -/
def scrInit : Scr := ⟨0, 0, 0, 0⟩

/-- The feedback bit of a line register, `R[13] xor R[16]` (R226). -/
def feedback (r : BitVec 17) : Bool := r.getLsbD 13 ^^ r.getLsbD 16

/-- `((R << 1) | o)[16:0]` (R228, R229). -/
def shiftLine (r : BitVec 17) (o : Bool) : BitVec 17 := (r <<< 1) ||| (BitVec.ofBool o).setWidth 17

/-- The run counter after line bit `o` outside a forced inversion (R228, R229). -/
def countOnes (ones : Nat) (o : Bool) : Nat := if o then ones + 1 else 0

/-- `scr_enc(d)` (R228). -/
def scrEnc (d : Bool) (c : Scr) : Bool × Scr :=
  let fb := feedback c.sr
  if c.sones = Param.scrRun then
    let o := d ^^ fb ^^ true
    (o, { c with sones := 0, sr := shiftLine c.sr o })
  else
    let o := d ^^ fb
    (o, { c with sones := countOnes c.sones o, sr := shiftLine c.sr o })

/-- `scr_dec(r)` (R229). -/
def scrDec (r : Bool) (c : Scr) : Bool × Scr :=
  let fb := feedback c.dr
  if c.dones = Param.scrRun then (r ^^ fb ^^ true, { c with dones := 0, dr := shiftLine c.dr r })
  else (r ^^ fb, { c with dones := countOnes c.dones r, dr := shiftLine c.dr r })

/-- A dibit through the scrambler, the more significant bit first (44_psk_modem.md R199). -/
def scrEncDibit (d : BitVec 2) (c : Scr) : BitVec 2 × Scr :=
  let (s1, c1) := scrEnc (d.getLsbD 1) c
  let (s0, c0) := scrEnc (d.getLsbD 0) c1
  (BitVec.ofBool s1 ++ BitVec.ofBool s0, c0)

/-- A dibit through the descrambler, the more significant bit first (46_psk_negotiation.md R243). -/
def scrDecDibit (r : BitVec 2) (c : Scr) : BitVec 2 × Scr :=
  let (d1, c1) := scrDec (r.getLsbD 1) c
  let (d0, c0) := scrDec (r.getLsbD 0) c1
  (BitVec.ofBool d1 ++ BitVec.ofBool d0, c0)

/-- SCRI: `scr_init()` (R231). -/
def execScri (s : State) : Result := direct s (done 0 { s with scr := scrInit })

/-- SCRE a: scramble bit a[0] (R232). -/
def execScre (a : BitVec 8) (s : State) : Result :=
  direct s
    (let (o, c) := scrEnc (bit0 a) s.scr
     done ((BitVec.ofBool o).setWidth 24) { s with scr := c })

/-- SCRD a: descramble bit a[0] (R233). -/
def execScrd (a : BitVec 8) (s : State) : Result :=
  direct s
    (let (d, c) := scrDec (bit0 a) s.scr
     done ((BitVec.ofBool d).setWidth 24) { s with scr := c })

end Sys2Proof.Machine
end

