-- ==== Sys2Proof/Machine/Negotiation.lean ====
section
/-! DEFINITION. Machine/Negotiation.lean: the PSK negotiation sequencer (46_psk_negotiation.md). -/

namespace Sys2Proof.Machine

/-- What `neg_put` returns (R242). -/
inductive NegEvent where
  | none | scr | data | fail
deriving DecidableEq, Repr

/-- The constants of one counted phase: LEN, FLOOR, EMAX (R242). -/
structure RunRule where
  /-- LEN -/
  len : Nat
  /-- FLOOR -/
  floor : Nat
  /-- EMAX -/
  emax : Nat
deriving DecidableEq, Repr

/-- The constants of phase RAW (R241). -/
def rawRule : RunRule := ⟨cfg.rawLen, cfg.rawFloor, cfg.rawErrMax⟩
/-- The constants of phase SCRAMBLED (R241). -/
def scrRule : RunRule := ⟨cfg.scrLen, cfg.scrFloor, cfg.scrErrMax⟩

/-- An unexpected symbol below the coverage floor: the run starts again (R242). -/
def negRestart (r : RunRule) (n : Neg) : Neg := { n with nrun := 0, ngood := 0, nerr := 0, nbud := r.len }

/-- A counted symbol, expected or not: NGOOD or NERR, then NRUN (R242). -/
def negTally (ok : Bool) (n : Neg) : Neg :=
  let m := if ok then { n with ngood := n.ngood + 1 } else { n with nerr := n.nerr + 1 }
  { m with nrun := m.nrun + 1 }

/-- The answerer's early commit (R242, R245). -/
def negEarly (dir : Direction) (n : Neg) : Neg :=
  if n.ph = .scrambled ∧ dir = .answerer ∧ n.txm = .raw ∧ cfg.scrEarly ≤ n.ngood then
    { n with txm := .scrambled }
  else n

/-- A run that succeeded: on to SCRAMBLED or to DATA (R242). -/
def negSucceed (dir : Direction) (n : Neg) : NegEvent × Neg :=
  let m := { n with nrun := 0, ngood := 0, nerr := 0, nretry := false }
  if n.ph = .raw then
    (.scr, { m with
      ph := .scrambled
      nbud := cfg.scrLen
      txm := if dir = .originator then .scrambled else m.txm })
  else (.data, { m with ph := .data, txm := .data, thold := cfg.dataHold })

/-- The judgement of a run whose budget is used up, or nothing while it is not (R242, R247, R248). -/
def negJudge (r : RunRule) (dir : Direction) (n : Neg) : NegEvent × Neg :=
  if n.nbud ≤ n.nrun then
    if n.nerr < r.emax then negSucceed dir n
    else if n.nretry then (.fail, { n with ph := .failed })
    else (.none, { n with nretry := true, nbud := n.nbud + r.len, nerr := 0 })
  else (.none, n)

/-- The counting part of `neg_put`, phases RAW and SCRAMBLED (R242). -/
def negCount (ok : Bool) (r : RunRule) (dir : Direction) (n : Neg) : NegEvent × Neg :=
  if !ok && decide (n.ngood < r.floor) then (.none, negRestart r n)
  else negJudge r dir (negEarly dir (negTally ok n))

/-- `neg_put(sym)` (R242). -/
def negPut (sym : BitVec 2) (s : State) : NegEvent × State :=
  match s.neg.ph with
  | .data =>
    let (d, c) := scrDecDibit sym s.scr
    (.none, (bqRxPut 2 (d.setWidth 16) { s with scr := c }).2)
  | .failed => (.none, s)
  | .raw =>
    let (ev, n) := negCount (sym == cfg.rawSym) rawRule s.psk.pdir s.neg
    (ev, { s with neg := n })
  | .scrambled =>
    let (d, c) := scrDecDibit sym s.scr
    let (ev, n) := negCount (d == cfg.pattern) scrRule s.psk.pdir s.neg
    (ev, { s with scr := c, neg := n })

end Sys2Proof.Machine
end

