-- ==== Sys2Proof/Machine/Psk.lean ====
section
/-! DEFINITION. Machine/Psk.lean: the PSK modem, its filters and mapper, and their commands
(44_psk_modem.md). -/

namespace Sys2Proof.Machine

/-- `MAP_Q[sym]` (R210). -/
def mapQ (sym : BitVec 2) : BitVec 2 := cfg.mapQ[sym.toFin]
/-- `MAP_S[q]` (R210). -/
def mapS (q : BitVec 2) : BitVec 2 := cfg.mapS[q.toFin]

/-- The output of a 13-tap filter over its delay line, `sat16(asr(Σ h[k]*D[k], 15))` (R204). -/
def firOut (h d : Vector Int 13) : Int :=
  sat16 (asr (sigma Param.firNt fun k => tap h k * tap d k) Param.sumShift)

/-- `fir(TXF[PDIR], TXD, x)` (R204, R198). -/
def firTx (x : Int) (s : State) : Int × State :=
  let d := shiftIn x s.psk.txd
  (firOut cfg.txf[s.psk.pdir.txChannel] d, { s with psk := { s.psk with txd := d } })

/-- `fir(RXF[1 - PDIR], RXD, x)` (R204, R205). -/
def firRx (x : Int) (s : State) : Int × State :=
  let d := shiftIn x s.psk.rxd
  (firOut cfg.rxf[s.psk.pdir.rxChannel] d, { s with psk := { s.psk with rxd := d } })

/-- `psk_init(d)` (R197). -/
def pskInit (d : Direction) (s : State) : State :=
  let t := setOsc 11 ⟨0, cfg.pskInc[d.rxChannel]⟩ (setOsc 10 ⟨0, cfg.pskInc[d.txChannel]⟩ s)
  { t with
    psk := ⟨d, Param.fs, Vector.replicate 13 0, Vector.replicate 13 0, Vector.replicate 8 0,
            Vector.replicate 13 0, Vector.replicate 13 0⟩
    neg := ⟨.raw, .raw, 0, 0, 0, cfg.rawLen, false, 0⟩
    scr := scrInit
    tim := timInit (mapS 0) Param.pskRate }

/-- `psk_getsym()` (R199). -/
def pskGetsym (s : State) : BitVec 2 × State :=
  match s.neg.txm with
  | .raw => (cfg.rawSym, s)
  | .scrambled =>
    let (sym, c) := scrEncDibit cfg.pattern s.scr
    (sym, { s with scr := c })
  | .data =>
    if 0 < s.neg.thold then
      let (sym, c) := scrEncDibit cfg.pattern s.scr
      (sym, { s with scr := c, neg := { s.neg with thold := s.neg.thold - 1 } })
    else
      let (r, t) := bqTxGet 2 s
      let (sym, c) := scrEncDibit (r.setWidth 2) t.scr
      (sym, { t with scr := c })

/-- The first part of `psk_mod`: at a symbol boundary pull the next symbol and step the phase by
`MAP_Q[sym] * 1024` (R198). -/
def pskPull (s : State) : State :=
  if Param.fs ≤ s.psk.psymacc then
    let (sym, t) := pskGetsym { s with psk := { s.psk with psymacc := s.psk.psymacc - Param.fs } }
    setPhase 10 (t.osc[(10 : Fin 12)].phase + (mapQ sym).setWidth 12 * 1024) t
  else s

/-- `psk_mod()` (R198). -/
def pskMod (s : State) : Int × State :=
  let t := pskPull s
  let raw := asr (oscCos 10 t) Param.txShift
  let u := oscAdv 10 t
  firTx raw { u with psk := { u.psk with psymacc := u.psk.psymacc + Param.pskRate } }

/-- `AI - BI` or `AQ - BQ`: the newer half of the window against the reference, less the older half
against the reference shifted by half the table (R205). -/
def halves (wave : BitVec 12 → Int) (x : Vector Int 8) (p c : BitVec 12) : Int :=
  (sigma Param.pskH fun k => tap x k * wave (p - BitVec.ofNat 12 k * c)) -
  (sigma Param.pskH fun k =>
    tap x (Param.pskH + k) * wave (p - BitVec.ofNat 12 (Param.pskH + k) * c + 2048))

/-- The quadrant step of the fixed linear combination's signs (R205). -/
def quadrant (a b : Int) : BitVec 2 :=
  if 0 ≤ a ∧ 0 ≤ b then 0
  else if 0 ≤ a then 1
  else if b < 0 then 2
  else 3

/-- The quadrant step between the pairs (I, Q) and (Ip, Qp) (R205). -/
def stepBetween (i q ip qp : Int) : BitVec 2 :=
  let dot := i * ip + q * qp
  let cross := i * qp - q * ip
  quadrant (dot + cross) (dot - cross)

/-- `psk_class(x)` (R205). -/
def pskClass (x : Int) (s : State) : BitVec 2 × State :=
  let (f, t) := firRx x s
  let px := shiftIn (asr f Param.pskRxShift) t.psk.px
  let p := t.osc[(11 : Fin 12)].phase
  let c := t.osc[(11 : Fin 12)].inc
  let i := asr (halves cosAt px p c) Param.sumShift
  let q := asr (halves sinAt px p c) Param.sumShift
  let u := oscAdv 11 t
  (stepBetween i q (tap t.psk.zi 12) (tap t.psk.zq 12),
    { u with psk := { u.psk with px := px, zi := shiftIn i u.psk.zi, zq := shiftIn q u.psk.zq } })

/-- `psk_dem(x)`: whether TIM emits (the value is TCUR after), the negotiation event, the state after
(R206). -/
def pskDem (x : Int) (s : State) : Bool × NegEvent × State :=
  let (q, t) := pskClass x s
  let (e, m) := timStep (mapS q) t.tim
  let u := { t with tim := m }
  if e then
    let (ev, w) := negPut m.tcur u
    (true, ev, w)
  else (false, .none, u)

/-- PSKI a: `psk_init(a[0])` (R207). -/
def execPski (a : BitVec 8) (s : State) : Result :=
  direct s (done 0 (pskInit (Direction.ofBit (bit0 a)) s))

/-- PSKM: one modulator sample (R208). -/
def execPskm (s : State) : Result :=
  direct s
    (let (y, t) := pskMod s
     done ((lo16 y).setWidth 24) t)

/-- PSKD b: one demodulator sample; the value is `e | val << 1 | PH << 3` (R209). -/
def execPskd (b : BitVec 16) (s : State) : Result :=
  direct s
    (let (e, _, t) := pskDem (sampleOf b) s
     done (0#19 ++ t.neg.ph.id ++ t.tim.tcur ++ BitVec.ofBool e) t)

/-- FIRT b: one step of the transmit filter alone (R211). -/
def execFirt (b : BitVec 16) (s : State) : Result :=
  direct s
    (let (y, t) := firTx (sampleOf b) s
     done ((lo16 y).setWidth 24) t)

/-- FIRR b: one step of the receive filter alone (R212). -/
def execFirr (b : BitVec 16) (s : State) : Result :=
  direct s
    (let (y, t) := firRx (sampleOf b) s
     done ((lo16 y).setWidth 24) t)

/-- MAPE a: the value is `MAP_Q[a[1:0]]`, in every DP state (R213). -/
def execMape (a : BitVec 8) (s : State) : Result := done ((mapQ (low2 a)).setWidth 24) s

/-- MAPD a: the value is `MAP_S[a[1:0]]`, in every DP state (R214). -/
def execMapd (a : BitVec 8) (s : State) : Result := done ((mapS (low2 a)).setWidth 24) s

end Sys2Proof.Machine
end

