-- ==== Sys2Proof/Machine/Scheduler.lean ====
section
/-! DEFINITION. Machine/Scheduler.lean: the datapump scheduler, the block processors and the call and data
commands (48_scheduler_host.md). -/

namespace Sys2Proof.Machine

/-- `modem_of(MODE)` (R292). -/
def modemOf (mode : BitVec 2) : Target :=
  if mode = 0 then .dp .fsk else if mode = 1 then .dp .psk else .invalid

/-- `create(x)`: none where the creation fails (R293). -/
def create (x : Target) (s : State) : Option State :=
  match x with
  | .dp .dialer =>
    let t := detInit { s with dial := { s.dial with dls8 := s.sreg[8] } }
    some { t with
      det := { t.det with tmo := s.sreg[6].toNat * Param.fs }
      dial := { t.dial with dlpos := 0, dlstate := .wait }
      dtrem := 0 }
  | .dp .detector =>
    let t := detInit s
    some { t with det := { t.det with tmo := s.sreg[7].toNat * Param.fs } }
  | .dp .fsk =>
    let t := bqInit (fskInit s.sched.dir s)
    some { t with sched := { t.sched with lt := s.sreg[7].toNat * Param.fs } }
  | .dp .psk =>
    let t := bqInit (pskInit s.sched.dir s)
    some { t with sched := { t.sched with lt := s.sreg[7].toNat * Param.fs } }
  | .dp .none => none
  | .invalid => none

/-- `DP <- NONE ; OFFHOOK <- 0 ; CONNECT <- 0` (R294). -/
def release (s : State) : State :=
  { s with sched := { s.sched with dp := .none, offhook := false, connect := false } }

/-- `apply_switch()` (R294). -/
def applySwitch (s : State) : State :=
  let t :=
    match s.sched.next with
    | .dp .none => release s
    | .dp d =>
      match create (.dp d) s with
      | some u => { u with sched := { u.sched with dp := d, connect := false } }
      | none => release { event .createfail s with sched := { s.sched with next := .dp .none } }
    | .invalid => release { event .createfail s with sched := { s.sched with next := .dp .none } }
  event .switch { t with sched := { t.sched with pend := false } }

/-- Sample `i` of the detector datapump (R297). -/
def detectorTurn (i : Nat) (s : State) : Turn × State :=
  let (r, t) := detStep (inSample i s) s
  if r = .timeout then (.stop, request (.dp .none) (event .timeout t))
  else
    let u := setOut i 0 t
    if r = .hit then (.last, request (modemOf u.ctl.mode) (event .detect u)) else (.more, u)

/-- The line timer before each sample: none where it has expired (R298). -/
def lineTimer (s : State) : Option State :=
  if s.sched.connect then some s
  else if s.sched.lt = 0 then none
  else some { s with sched := { s.sched with lt := s.sched.lt - 1 } }

/-- `event(TIMEOUT) ; request(NONE)` (R298). -/
def lineTimeout (s : State) : State := request (.dp .none) (event .timeout s)

/-- `CONNECT <- v` (R299, R300). -/
def setConnect (v : Bool) (s : State) : State := { s with sched := { s.sched with connect := v } }

/-- What the FSK datapump does with the carrier event of a sample (R299). -/
def fskEvent (ev : CarrierEvent) (s : State) : Turn × State :=
  match ev with
  | .cd => (.more, event .connect (setConnect true s))
  | .lost => (.last, request (.dp .none) (event .cdlost (setConnect false s)))
  | .none => (.more, s)

/-- The modulator, the output cell and the demodulator of sample `i` (R299): the carrier event, the state
after. -/
def fskSample (i : Nat) (s : State) : CarrierEvent × State :=
  let m := fskMod s
  let d := fskDem (inSample i s) (setOut i m.1 m.2)
  (d.2.1, d.2.2)

/-- Sample `i` of the FSK datapump (R299). -/
def fskTurn (i : Nat) (s : State) : Turn × State :=
  match lineTimer s with
  | none => (.stop, lineTimeout s)
  | some t =>
    let (ev, u) := fskSample i t
    fskEvent ev u

/-- What the PSK datapump does with the negotiation event of a sample (R300). -/
def pskEvent (ev : NegEvent) (s : State) : State :=
  match ev with
  | .data => event .connect (setConnect true s)
  | .fail => event .negfail s
  | .scr => s
  | .none => s

/-- The modulator, the output cell and the demodulator of sample `i` (R300): the negotiation event, the
state after. -/
def pskSample (i : Nat) (s : State) : NegEvent × State :=
  let m := pskMod s
  let d := pskDem (inSample i s) (setOut i m.1 m.2)
  (d.2.1, d.2.2)

/-- Sample `i` of the PSK datapump (R300). -/
def pskTurn (i : Nat) (s : State) : Turn × State :=
  match lineTimer s with
  | none => (.stop, lineTimeout s)
  | some t =>
    let (ev, u) := pskSample i t
    (.more, pskEvent ev u)

/-- `dp_process(n)`, the dispatch on DP (R295, R319). -/
def dpProcess (n : Nat) (s : State) : Nat × State :=
  match s.sched.dp with
  | .none => (0, s)
  | .dialer => dialerProcess n s
  | .detector => sampleLoop detectorTurn n 0 s
  | .fsk => sampleLoop fskTurn n 0 s
  | .psk => sampleLoop pskTurn n 0 s

/-- `for i in p..n-1: OUTBUF[i] <- 0`, as `left` cells from index `i` on (R296). -/
def zeroFill : Nat → Nat → State → State
  | 0, _, s => s
  | left + 1, i, s => zeroFill left (i + 1) (setOut i 0 s)

/-- What `process` returns: p, sw and the state after (R296). -/
structure Processed where
  /-- p, the samples produced -/
  produced : Nat
  /-- sw, a switch was applied -/
  switched : Bool
  /-- the state after -/
  after : State
deriving DecidableEq, Repr

/-- `process(n)` (R296). -/
def process (n : Nat) (s : State) : Processed :=
  let (p, t) := dpProcess n s
  let u := zeroFill (n - p) p t
  if u.sched.pend then ⟨p, true, applySwitch u⟩ else ⟨p, false, u⟩

/-- NOP: no effect (R307). -/
def execNop (s : State) : Result := done 0 s

/-- RESET: every register and RAM cell to its reset value, then the response (R308, R370, R371); what the
host still presents is not the machine's and stays (log entry 1). -/
def execReset (s : State) : Result := done 0 { State.reset with port := s.port }

/-- ORIG: originate a call; the value is DP after (R311). -/
def execOrig (s : State) : Result :=
  direct s
    (let t := applySwitch (request (.dp .dialer)
       { s with sched := { s.sched with dir := .originator, offhook := true } })
     done (t.sched.dp.id.setWidth 24) t)

/-- ANSW: answer a call; the value is DP after (R312). -/
def execAnsw (s : State) : Result :=
  direct s
    (let t := applySwitch (request (modemOf s.ctl.mode)
       { s with sched := { s.sched with dir := .answerer, offhook := true } })
     done (t.sched.dp.id.setWidth 24) t)

/-- HUP: hang up, effective at once in every DP state (R313). -/
def execHup (s : State) : Result := done 0 (applySwitch (request (.dp .none) s))

/-- WRIN a, b: `INBUF[a] <- sext_16(b)` (R314). -/
def execWrin (a : BitVec 8) (b : BitVec 16) (s : State) : Result := done 0 (setIn a.toNat b s)

/-- RDOUT a: the value is `lo16(OUTBUF[a])` (R315). -/
def execRdout (a : BitVec 8) (s : State) : Result := done ((s.outbuf.read a.toNat).setWidth 24) s

/-- PROC b: RANGE, then `process(b)`; the value is `p | sw << 12 | DP << 16` (R316). -/
def execProc (b : BitVec 16) (s : State) : Result :=
  inRange (blockCountOperand b) s fun n =>
    let r := process n s
    done (0#5 ++ r.after.sched.dp.id ++ 0#3 ++ BitVec.ofBool r.switched ++ BitVec.ofNat 12 r.produced) r.after

/-- STEP b: `INBUF[0] <- sext_16(b)`, then `process(1)`; the value is `lo16(OUTBUF[0]) | p << 16 | sw << 17`
(R317). -/
def execStep (b : BitVec 16) (s : State) : Result :=
  let r := process 1 (setIn 0 b s)
  done (0#6 ++ BitVec.ofBool r.switched ++ BitVec.ofNat 1 r.produced ++ r.after.outbuf.read 0) r.after

end Sys2Proof.Machine
end

