-- ==== Sys2Proof/Machine/Dispatch.lean ====
section
/-! DEFINITION. Machine/Dispatch.lean: the meaning of every command (30_encoding.md R86), one arm each. -/

namespace Sys2Proof.Machine

/-- Execute one command atomically (30_encoding.md R81). -/
def exec (i : Instr) (s : State) : Host.Outcome State Fault Refusal :=
  match i with
  | .nop => Sys2Proof.Machine.execNop s
  | .reset => Sys2Proof.Machine.execReset s
  | .wrs a b => Sys2Proof.Machine.execWrs a b s
  | .rds a => Sys2Proof.Machine.execRds a s
  | .wrc a b => Sys2Proof.Machine.execWrc a b s
  | .rdc a => Sys2Proof.Machine.execRdc a s
  | .rdst => Sys2Proof.Machine.execRdst s
  | .rdev => Sys2Proof.Machine.execRdev s
  | .dialc b => Sys2Proof.Machine.execDialc b s
  | .dialx => Sys2Proof.Machine.execDialx s
  | .orig => Sys2Proof.Machine.execOrig s
  | .answ => Sys2Proof.Machine.execAnsw s
  | .hup => Sys2Proof.Machine.execHup s
  | .wrin a b => Sys2Proof.Machine.execWrin a b s
  | .rdout a => Sys2Proof.Machine.execRdout a s
  | .proc b => Sys2Proof.Machine.execProc b s
  | .step b => Sys2Proof.Machine.execStep b s
  | .txch b => Sys2Proof.Machine.execTxch b s
  | .rxch => Sys2Proof.Machine.execRxch s
  | .oscp a b => Sys2Proof.Machine.execOscp a b s
  | .osci a b => Sys2Proof.Machine.execOsci a b s
  | .osca a => Sys2Proof.Machine.execOsca a s
  | .oscc a => Sys2Proof.Machine.execOscc a s
  | .oscs a => Sys2Proof.Machine.execOscs a s
  | .oscr a => Sys2Proof.Machine.execOscr a s
  | .deti => Sys2Proof.Machine.execDeti s
  | .dett a b => Sys2Proof.Machine.execDett a b s
  | .dets b => Sys2Proof.Machine.execDets b s
  | .detr => Sys2Proof.Machine.execDetr s
  | .dtk b => Sys2Proof.Machine.execDtk b s
  | .dts => Sys2Proof.Machine.execDts s
  | .fski a => Sys2Proof.Machine.execFski a s
  | .fskm => Sys2Proof.Machine.execFskm s
  | .fskd b => Sys2Proof.Machine.execFskd b s
  | .pski a => Sys2Proof.Machine.execPski a s
  | .pskm => Sys2Proof.Machine.execPskm s
  | .pskd b => Sys2Proof.Machine.execPskd b s
  | .firt b => Sys2Proof.Machine.execFirt b s
  | .firr b => Sys2Proof.Machine.execFirr b s
  | .mape a => Sys2Proof.Machine.execMape a s
  | .mapd a => Sys2Proof.Machine.execMapd a s
  | .scri => Sys2Proof.Machine.execScri s
  | .scre a => Sys2Proof.Machine.execScre a s
  | .scrd a => Sys2Proof.Machine.execScrd a s
  | .timi a b => Sys2Proof.Machine.execTimi a b s
  | .tims a => Sys2Proof.Machine.execTims a s
  | .bqi => Sys2Proof.Machine.execBqi s
  | .bqp a b => Sys2Proof.Machine.execBqp a b s
  | .bqg a => Sys2Proof.Machine.execBqg a s
  | .ffst => Sys2Proof.Machine.execFfst s
  | .ffcl => Sys2Proof.Machine.execFfcl s

end Sys2Proof.Machine
end

