-- ==== Sys2Proof/Machine/Port.lean ====
section
/-! DEFINITION. Machine/Port.lean: the command port and the hardware reset input (30_encoding.md R81,
70_reset_and_hazards.md R370). -/

namespace Sys2Proof.Machine

/-- What the machine finds at its inputs, with the state after taking it. -/
inductive Fetched where
  /-- Nothing is presented. -/
  | idle
  /-- A command word. -/
  | word (w : Word) (s : State)
  /-- The reset input is asserted. -/
  | resetInput (s : State)
deriving DecidableEq, Repr

/-- Take the next input off the port (R81: one command at a time, in the order presented). -/
def fetch (s : State) : Fetched :=
  match s.port with
  | [] => .idle
  | .command w :: rest => .word w { s with port := rest }
  | .resetInput :: rest => .resetInput { s with port := rest }

/-- The hardware reset: every register and RAM cell to its reset value, no response (R370, log entry 8). -/
def hardReset (s : State) : State := { State.reset with port := s.port }

end Sys2Proof.Machine
end

