-- ==== Sys2Proof/Machine/Step.lean ====
section
/-! DEFINITION. Machine/Step.lean: one step of the machine. -/

namespace Sys2Proof.Machine

/-- One step: the machine takes the next input the host presents and executes it whole (30_encoding.md
R81). With nothing presented it does nothing (70_reset_and_hazards.md R373, log entry 5). A word whose
opcode is not in the table raises CmdError(ILLEGAL) (30_encoding.md R87). -/
def step (s : State) : Host.Outcome State Fault Refusal :=
  match fetch s with
  | .idle => .next s
  | .resetInput t => .next (hardReset t)
  | .word w t =>
    match decode w with
    | .ok i => exec i t
    | .error _ => raise .illegal t

/-- `s` with the command of `nbits` bits `w` (the bits above zero) as the word the host presents next; the
rest of what the host presents stays (log entry 6). -/
def State.withFetchWord (s : State) (nbits w : Nat) : State :=
  { s with port := .command (BitVec.ofNat 32 (w % 2 ^ nbits)) :: s.port.tail }

end Sys2Proof.Machine
end

