-- ==== Sys2Proof/WellFormed.lean ====
section
/-! DEFINITION. WellFormed.lean: the operand values a command accepts.

An ill-formed command is not an illegal encoding: it decodes and executes, and its execution raises the
command error RANGE or BADKEY of 60_exceptions.md R351 (when no BUSY comes first, R352). The checks here
are the static ones of that table, the ones that depend on the operands alone. -/

namespace Sys2Proof

/-- The sixteen DTMF key characters (42_dtmf_dialer.md R142). -/
def keyCharacters : List (BitVec 8) :=
  [0x31, 0x32, 0x33, 0x41, 0x34, 0x35, 0x36, 0x42, 0x37, 0x38, 0x39, 0x43, 0x2A, 0x30, 0x23, 0x44]

/-- S register index 0..15 (R351). -/
def sIndexOk (a : BitVec 8) : Bool := a.toNat ≤ 15
/-- Control register index 0..6 (R351). -/
def ctlIndexOk (a : BitVec 8) : Bool := a.toNat ≤ 6
/-- Oscillator index 0..11 (R351). -/
def oscIndexOk (a : BitVec 8) : Bool := a.toNat ≤ 11
/-- Block count 1..256 (R351). -/
def blockCountOk (b : BitVec 16) : Bool := 1 ≤ b.toNat && b.toNat ≤ Param.blkMax
/-- Symbol rate 1..8000 (R351). -/
def rateOk (b : BitVec 16) : Bool := 1 ≤ b.toNat && b.toNat ≤ Param.fs
/-- Bit count 1..16 (R351). -/
def bitCountOk (a : BitVec 8) : Bool := 1 ≤ a.toNat && a.toNat ≤ 16
/-- `b[7:0]` is a key character (R145, R351). -/
def keyOk (b : BitVec 16) : Bool := keyCharacters.contains (b.setWidth 8)

/-- The operands of the command are in the ranges of 60_exceptions.md R351: its execution raises neither
RANGE nor BADKEY. -/
def Instr.wellFormed : Instr → Bool
  | .wrs a _ => sIndexOk a
  | .rds a => sIndexOk a
  | .wrc a _ => ctlIndexOk a
  | .rdc a => ctlIndexOk a
  | .proc b => blockCountOk b
  | .oscp a _ => oscIndexOk a
  | .osci a _ => oscIndexOk a
  | .osca a => oscIndexOk a
  | .oscc a => oscIndexOk a
  | .oscs a => oscIndexOk a
  | .oscr a => oscIndexOk a
  | .dtk b => keyOk b
  | .timi _ b => rateOk b
  | .bqp a _ => bitCountOk a
  | .bqg a => bitCountOk a
  | .nop => true
  | .reset => true
  | .rdst => true
  | .rdev => true
  | .dialc _ => true
  | .dialx => true
  | .orig => true
  | .answ => true
  | .hup => true
  | .wrin _ _ => true
  | .rdout _ => true
  | .step _ => true
  | .txch _ => true
  | .rxch => true
  | .deti => true
  | .dett _ _ => true
  | .dets _ => true
  | .detr => true
  | .dts => true
  | .fski _ => true
  | .fskm => true
  | .fskd _ => true
  | .pski _ => true
  | .pskm => true
  | .pskd _ => true
  | .firt _ => true
  | .firr _ => true
  | .mape _ => true
  | .mapd _ => true
  | .scri => true
  | .scre _ => true
  | .scrd _ => true
  | .tims _ => true
  | .bqi => true
  | .ffst => true
  | .ffcl => true

end Sys2Proof
end

