-- ==== Sys2Proof/Safety.lean ====
section
/-! DEFINITION. Safety.lean: what a good state is. The bounds of 10_state.md (R36 to R45, R49), which
00_scope.md R15 calls proven bounds and not wrap points, the canonical form of the memories, and the
consistency of the scheduler and of the negotiation counters between commands; and the terms the statements
of Certificates/Slice0/Obligations.lean are written in. -/

namespace Sys2Proof.Machine

/-- Every value of a delay line lies in `lo..hi`. -/
abbrev Within {n : Nat} (lo hi : Int) (d : Vector Int n) : Prop := ∀ x ∈ d.toList, lo ≤ x ∧ x ≤ hi

/-- The five RAMs are in canonical form and DIALLEN does not exceed DIALSTR (20_memory.md R60, R62). -/
abbrev State.MemoryCanonical (s : State) : Prop :=
  s.dial.dialstr.wf Param.dialMax = true ∧ s.rxfifo.cells.wf Param.fifoSize = true ∧
  s.txfifo.cells.wf Param.fifoSize = true ∧ s.inbuf.wf Param.blkMax = true ∧
  s.outbuf.wf Param.blkMax = true ∧ s.dial.diallen ≤ Param.dialMax

/-- The invariants of 10_state.md R49 that the types do not already carry, and that the oldest bit held in RXB
is a start bit, 0 (47_framing_fifo.md R263). -/
abbrev State.RegisterRanges (s : State) : Prop :=
  s.dial.diallen ≤ 64 ∧ s.dial.dlpos ≤ 64 ∧ (s.sched.dp = .dialer → s.dial.dlpos ≤ s.dial.diallen) ∧
  s.det.wcnt ≤ 255 ∧ s.dtrem ≤ 1600 ∧ s.neg.thold ≤ 240 ∧ s.scr.sones ≤ 64 ∧ s.scr.dones ≤ 64 ∧
  s.bq.rxc ≤ 9 ∧ s.bq.txc ≤ 25 ∧ s.bq.rxb.toNat < 2 ^ s.bq.rxc ∧ s.bq.txb.toNat < 2 ^ s.bq.txc ∧
  (0 < s.bq.rxc → s.bq.rxb.getLsbD (s.bq.rxc - 1) = false) ∧
  1 ≤ s.tim.trate ∧ s.tim.trate ≤ 8000

/-- The detector's sums against the samples of the window so far (R36), and its budget. -/
abbrev Detector.Bounded (d : Detector) : Prop :=
  Within (-(d.wcnt * (2048 * 32767) : Int)) (d.wcnt * (2048 * 32767)) d.di ∧
  Within (-(d.wcnt * (2048 * 32767) : Int)) (d.wcnt * (2048 * 32767)) d.dq ∧
  d.de ≤ d.wcnt * (2048 * 2048) ∧ d.wcnt ≤ 255 ∧ d.tmo < 2 ^ 24

/-- The symbol-timing registers' ranges (R38). -/
abbrev Tim.Bounded (t : Tim) : Prop := t.tacc ≤ 11999 ∧ t.bacc ≤ 65535 ∧ 1 ≤ t.trate ∧ t.trate ≤ 8000

/-- The FSK registers' ranges (R39). -/
abbrev Fsk.Bounded (f : Fsk) : Prop := f.ftxacc ≤ 8299 ∧ Within (-2048) 2047 f.fx ∧ f.fcdcnt ≤ 204000

/-- The PSK registers' ranges (R40). -/
abbrev Psk.Bounded (p : Psk) : Prop :=
  p.psymacc ≤ 8599 ∧ Within (-32768) 32767 p.txd ∧ Within (-32768) 32767 p.rxd ∧
  Within (-2048) 2047 p.px ∧ Within (-16384) 16384 p.zi ∧ Within (-16384) 16384 p.zq

/-- Every accumulator, delay line and budget fits the register 10_state.md gives it (R36 to R40, R44). -/
abbrev State.WidthsHold (s : State) : Prop :=
  s.det.Bounded ∧ s.tim.Bounded ∧ s.fsk.Bounded ∧ s.psk.Bounded ∧ s.dtrem ≤ 1600 ∧ s.sched.lt < 2 ^ 24

/-- What 46_psk_negotiation.md R252 says of the counters, phase by phase, and R245 of the transmit mode. -/
abbrev Neg.Counted (n : Neg) : Prop :=
  n.thold ≤ cfg.dataHold ∧ n.ngood ≤ n.nrun ∧ n.nerr ≤ n.nrun ∧ n.nrun ≤ n.nbud ∧ n.nbud ≤ 2 * cfg.scrLen ∧
  (n.ph = .raw → n.txm = .raw ∧ n.nrun < n.nbud ∧
    n.nbud = (if n.nretry then 2 * cfg.rawLen else cfg.rawLen) ∧
    (0 < n.nerr ∨ n.nretry = true → cfg.rawFloor ≤ n.ngood)) ∧
  (n.ph = .scrambled → n.txm ≠ .data ∧ n.nrun < n.nbud ∧
    n.nbud = (if n.nretry then 2 * cfg.scrLen else cfg.scrLen) ∧
    (0 < n.nerr ∨ n.nretry = true → cfg.scrFloor ≤ n.ngood)) ∧
  (n.ph = .data → n.txm = .data ∧ n.nretry = false) ∧
  (n.ph = .failed → n.txm ≠ .data ∧ n.nretry = true)

/-- The negotiation counters of a state are those of R252. -/
abbrev State.NegotiationCounted (s : State) : Prop := s.neg.Counted

/-- The scheduler between commands: no request is outstanding, NEXT is the datapump last switched to, and
OFFHOOK and CONNECT belong to DP (48_scheduler_host.md R294, R296, 70_reset_and_hazards.md R384). -/
abbrev State.Scheduled (s : State) : Prop :=
  s.sched.pend = false ∧ s.sched.next = .dp s.sched.dp ∧
  (s.sched.offhook = true ↔ s.sched.dp ≠ .none) ∧
  (s.sched.connect = true → s.sched.dp = .fsk ∨ s.sched.dp = .psk)

/-- A good state. -/
abbrev State.Inv (s : State) : Prop :=
  s.MemoryCanonical ∧ s.RegisterRanges ∧ s.WidthsHold ∧ s.NegotiationCounted ∧ s.Scheduled

/-! ### The terms of the statements: which error a command reports, runs of commands, what a FIFO holds -/

/-- The five response words of 30_encoding.md R84. -/
def errorWord : CmdError → Word
  | .illegal => 0x81000000
  | .busy => 0x82000000
  | .range => 0x83000000
  | .badkey => 0x84000000
  | .full => 0x85000000

/-- What a failing command does (30_encoding.md R84): EVT.CMDERR, bit 10, is set, the response is the error
word, nothing else changes. -/
def errorAnswer (e : CmdError) (s : State) : Result :=
  .next { s with evt := s.evt ||| 0x400, resp := some (errorWord e) }

/-- The direct commands (00_scope.md R19, the rows marked "direct" in 30_encoding.md R86). -/
def isDirect : Instr → Bool
  | .oscp _ _ => true
  | .osci _ _ => true
  | .osca _ => true
  | .oscc _ => true
  | .oscs _ => true
  | .oscr _ => true
  | .deti => true
  | .dett _ _ => true
  | .dets _ => true
  | .dtk _ => true
  | .dts => true
  | .fski _ => true
  | .fskm => true
  | .fskd _ => true
  | .pski _ => true
  | .pskm => true
  | .pskd _ => true
  | .firt _ => true
  | .firr _ => true
  | .scri => true
  | .scre _ => true
  | .scrd _ => true
  | .timi _ _ => true
  | .tims _ => true
  | .bqi => true
  | .bqp _ _ => true
  | .bqg _ => true
  | .nop => false
  | .reset => false
  | .wrs _ _ => false
  | .rds _ => false
  | .wrc _ _ => false
  | .rdc _ => false
  | .rdst => false
  | .rdev => false
  | .dialc _ => false
  | .dialx => false
  | .orig => false
  | .answ => false
  | .hup => false
  | .wrin _ _ => false
  | .rdout _ => false
  | .proc _ => false
  | .step _ => false
  | .txch _ => false
  | .rxch => false
  | .detr => false
  | .mape _ => false
  | .mapd _ => false
  | .ffst => false
  | .ffcl => false

/-- The commands of 60_exceptions.md R351 that are refused in active mode. -/
def refusedWhileActive (i : Instr) : Prop :=
  isDirect i = true ∨ (∃ a b, i = .wrc a b ∧ a ≠ 1) ∨ i = .orig ∨ i = .answ

/-- The BUSY rows of 60_exceptions.md R351. -/
def failsBusy (i : Instr) (s : State) : Prop :=
  (refusedWhileActive i ∧ s.sched.dp ≠ .none) ∨ (((∃ b, i = .dialc b) ∨ i = .dialx) ∧ s.sched.dp = .dialer)

/-- The RANGE rows of 60_exceptions.md R351. -/
def failsRange (i : Instr) : Prop :=
  (∃ a, 11 < a.toNat ∧ ((∃ b, i = .oscp a b) ∨ (∃ b, i = .osci a b) ∨ i = .osca a ∨ i = .oscc a ∨ i = .oscs a ∨
    i = .oscr a)) ∨
  (∃ a, 15 < a.toNat ∧ ((∃ b, i = .wrs a b) ∨ i = .rds a)) ∨
  (∃ a, 6 < a.toNat ∧ ((∃ b, i = .wrc a b) ∨ i = .rdc a)) ∨
  (∃ b, (b.toNat < 1 ∨ 256 < b.toNat) ∧ i = .proc b) ∨
  (∃ a b, (b.toNat < 1 ∨ 8000 < b.toNat) ∧ i = .timi a b) ∨
  (∃ a, (a.toNat < 1 ∨ 16 < a.toNat) ∧ ((∃ b, i = .bqp a b) ∨ i = .bqg a))

/-- The BADKEY row of 60_exceptions.md R351. -/
def failsBadkey (i : Instr) : Prop := ∃ b : BitVec 16, i = .dtk b ∧ b.setWidth 8 ∉ keyCharacters

/-- The FULL rows of 60_exceptions.md R351. -/
def failsFull (i : Instr) (s : State) : Prop :=
  ((∃ b, i = .txch b) ∧ s.txfifo.count = 255) ∨ ((∃ b, i = .dialc b) ∧ s.dial.diallen = 64)

/-- The same machine with no datapump active, as the direct commands ask for (60_exceptions.md R350). -/
def State.parked (s : State) : State := { s with sched := { s.sched with dp := .none } }

/-- The line released and no request outstanding: `apply_switch` to NONE (48_scheduler_host.md R294). -/
def Sched.released (c : Sched) : Sched :=
  { c with dp := .none, next := .dp .none, pend := false, connect := false, offhook := false }

/-- `t` with the sample buffers a STEP of input `b` and output `y` leaves from those of `s`
(48_scheduler_host.md R317). -/
def State.sampled (t : State) (b y : BitVec 16) (s : State) : State :=
  { t with inbuf := s.inbuf.write 0 b, outbuf := s.outbuf.write 0 y }

/-- A direction as the operand of FSKI and PSKI (10_state.md R29). -/
def Direction.operand : Direction → BitVec 8
  | .originator => 0
  | .answerer => 1

/-- Run commands one after the other; none where one of them does not answer a next state. -/
def execAll : List Instr → State → Option State
  | [], s => some s
  | i :: rest, s =>
    match exec i s with
    | .next t => execAll rest t
    | .fault _ => none
    | .refused _ => none

/-- The responses of commands run one after the other, up to the first that does not answer a next state. -/
def answers : List Instr → State → List Word
  | [], _ => []
  | i :: rest, s =>
    match exec i s with
    | .next t => t.resp.getD 0 :: answers rest t
    | .fault _ => []
    | .refused _ => []

/-- The bytes a FIFO holds, the oldest first (20_memory.md R63). -/
def Fifo.contents (f : Fifo) : List Byte :=
  (List.range (f.head - f.tail).toNat).map fun k => f.cells.read (f.tail + BitVec.ofNat 8 k).toNat

/-- Scramble a bit sequence: the line bits and the scrambler after (45_scrambler.md R228). -/
def scrambleAll : List Bool → Scr → List Bool × Scr
  | [], c => ([], c)
  | d :: rest, c =>
    let e := scrEnc d c
    let r := scrambleAll rest e.2
    (e.1 :: r.1, r.2)

/-- Descramble a bit sequence: the data bits and the descrambler after (45_scrambler.md R229). -/
def descrambleAll : List Bool → Scr → List Bool × Scr
  | [], c => ([], c)
  | r :: rest, c =>
    let d := scrDec r c
    let q := descrambleAll rest d.2
    (d.1 :: q.1, q.2)

/-- The host pulls groups of 1 to 16 bits from the transmit framer and pushes each group straight into the
receive framer (47_framing_fifo.md R265): the state after, none where a command does not answer a next
state. -/
def loopback : List (Fin 16) → State → Option State
  | [], s => some s
  | n :: rest, s =>
    match exec (.bqg (BitVec.ofNat 8 (n.val + 1))) s with
    | .next t =>
      match exec (.bqp (BitVec.ofNat 8 (n.val + 1)) ((t.resp.getD 0).setWidth 16)) t with
      | .next u => loopback rest u
      | .fault _ => none
      | .refused _ => none
    | .fault _ => none
    | .refused _ => none

end Sys2Proof.Machine
end

