-- ==== Sys2Proof/Certificates/Slice0/Obligations.lean ====
section
/-! DEFINITION. Certificates/Slice0/Obligations.lean: the statements for the provers. Each docstring names the
rules of spec/ a statement formalises, or the sections it is derived from. -/

open Sys2Proof Sys2Proof.Machine

/-! ### Encoding -/

/-- Every command, with every operand value, is read back from its own word (derived from 30_encoding.md R80, R86
and R89). -/
def Obligations.DecodeEncodeRoundTrip : Prop := ∀ i : Instr, decode (encode i) = .ok i

/-- A word decodes to a command exactly if its bits 31:24 are the command's opcode and the operand fields of
the command's usage class are its operands; the other fields are ignored (R80, R83, R88). -/
def Obligations.DecodeReadsExactlyTheUsedFields : Prop :=
  ∀ (w : Word) (i : Instr), decode w = .ok i ↔
    (w >>> 24).setWidth 8 = opcode i ∧ (usesA i = true → (w >>> 16).setWidth 8 = operandA i) ∧
    (usesB i = true → w.setWidth 16 = operandB i)

/-- The 205 opcode values outside the table raise CmdError(ILLEGAL) in every state, whatever the operands
hold, and every other opcode value is a command (R87). -/
def Obligations.IllegalOpcodesRaiseIllegal : Prop :=
  ∀ (w : Word) (rest : List HostInput) (s : State), s.port = .command w :: rest →
    ((0x13 ≤ (w >>> 24).toNat ∧ (w >>> 24).toNat ≤ 0x1F) ∨ (0x26 ≤ (w >>> 24).toNat ∧ (w >>> 24).toNat ≤ 0x2F) ∨
      (0x34 ≤ (w >>> 24).toNat ∧ (w >>> 24).toNat ≤ 0x3F) ∨ (0x42 ≤ (w >>> 24).toNat ∧ (w >>> 24).toNat ≤ 0x4F) ∨
      (0x53 ≤ (w >>> 24).toNat ∧ (w >>> 24).toNat ≤ 0x5F) ∨ (0x67 ≤ (w >>> 24).toNat ∧ (w >>> 24).toNat ≤ 0x6F) ∨
      (0x73 ≤ (w >>> 24).toNat ∧ (w >>> 24).toNat ≤ 0x7F) ∨ (0x82 ≤ (w >>> 24).toNat ∧ (w >>> 24).toNat ≤ 0x8F) ∨
      0x95 ≤ (w >>> 24).toNat →
      step s = .next { s with port := rest, evt := s.evt ||| 0x400, resp := some 0x81000000 }) ∧
    ((w >>> 24).toNat ∈ [0x00, 0x01, 0x02, 0x03, 0x04, 0x05, 0x06, 0x07, 0x08, 0x09, 0x0A, 0x0B, 0x0C, 0x0D, 0x0E,
      0x0F, 0x10, 0x11, 0x12, 0x20, 0x21, 0x22, 0x23, 0x24, 0x25, 0x30, 0x31, 0x32, 0x33, 0x40, 0x41, 0x50, 0x51,
      0x52, 0x60, 0x61, 0x62, 0x63, 0x64, 0x65, 0x66, 0x70, 0x71, 0x72, 0x80, 0x81, 0x90, 0x91, 0x92, 0x93, 0x94] →
      ∃ i, decode w = .ok i)

/-- The worked encodings of 30_encoding.md R91, which the spec marks as derived, both ways. -/
def Obligations.WorkedEncodingsDecode : Prop :=
  (decode 0x00000000 = .ok .nop ∧ encode .nop = 0x00000000) ∧
  (decode 0x02080003 = .ok (.wrs 8 3) ∧ encode (.wrs 8 3) = 0x02080003) ∧
  (decode 0x0403034D = .ok (.wrc 3 845) ∧ encode (.wrc 3 845) = 0x0403034D) ∧
  (decode 0x08000035 = .ok (.dialc 0x35) ∧ encode (.dialc 0x35) = 0x08000035) ∧
  (decode 0x0D02FF9C = .ok (.wrin 2 (-100)) ∧ encode (.wrin 2 (-100)) = 0x0D02FF9C) ∧
  (decode 0x0F0000A0 = .ok (.proc 160) ∧ encode (.proc 160) = 0x0F0000A0) ∧
  (decode 0x21000165 = .ok (.osci 0 357) ∧ encode (.osci 0 357) = 0x21000165) ∧
  (decode 0x310003E8 = .ok (.dett 0 1000) ∧ encode (.dett 0 1000) = 0x310003E8) ∧
  (decode 0x32001F3F = .ok (.dets 7999) ∧ encode (.dets 7999) = 0x32001F3F) ∧
  (decode 0x71010000 = .ok (.scre 1) ∧ encode (.scre 1) = 0x71010000) ∧
  (decode 0x8001012C = .ok (.timi 1 300) ∧ encode (.timi 1 300) = 0x8001012C) ∧
  (decode 0x910A0105 = .ok (.bqp 10 0x105) ∧ encode (.bqp 10 0x105) = 0x910A0105) ∧
  (decode 0x920A0000 = .ok (.bqg 10) ∧ encode (.bqg 10) = 0x920A0000)

/-! ### The step -/

/-- A step takes the next thing the host presents: a command word that decodes to `i` makes it exec of `i`;
with nothing presented nothing happens; the reset input gives the reset state. That the presented inputs are a
list, and what an empty list and the reset input do to it, is the model's choice (log entries 1, 5, 6, 8). -/
def Obligations.StepExecutesTheNextHostInput : Prop :=
  (∀ (s : State) (w : Word) (rest : List HostInput) (i : Instr), s.port = .command w :: rest → decode w = .ok i →
    step s = exec i { s with port := rest }) ∧
  (∀ (s : State) (w : Nat) (i : Instr), w < 2 ^ 32 → decodeTableWord 32 w = some i →
    step (s.withFetchWord 32 w) = exec i { s with port := s.port.tail }) ∧
  (∀ s : State, s.port = [] → step s = .next s) ∧
  (∀ (s : State) (rest : List HostInput), s.port = .resetInput :: rest →
    step s = .next { State.reset with port := rest })

/-! ### Command errors -/

/-- Which error each command reports, in the order BUSY, RANGE, BADKEY or FULL, that a failing command changes
nothing but EVT.CMDERR and its response, and that every other command completes with ERR = 0 (R84, R351, R352). -/
def Obligations.CommandErrorsArePrecise : Prop :=
  (∀ (i : Instr) (s : State),
    (failsBusy i s → exec i s = errorAnswer .busy s) ∧
    (¬ failsBusy i s → failsRange i → exec i s = errorAnswer .range s) ∧
    (¬ failsBusy i s → ¬ failsRange i → failsBadkey i → exec i s = errorAnswer .badkey s) ∧
    (¬ failsBusy i s → ¬ failsRange i → ¬ failsBadkey i → failsFull i s → exec i s = errorAnswer .full s) ∧
    (¬ failsBusy i s → ¬ failsRange i → ¬ failsBadkey i → ¬ failsFull i s →
      ∃ (t : State) (v : Value), exec i s = .next t ∧ t.resp = some (v.setWidth 32))) ∧
  (∀ (s : State) (w : Word) (rest : List HostInput) (r : Reject), s.port = .command w :: rest → decode w = .error r →
    step s = errorAnswer .illegal { s with port := rest })

/-! ### Invariants that every step keeps -/

/-- Every step keeps the canonical form of the five memories, the model's own form for the RAMs of 20_memory.md R60
to R63 (log entry 10). -/
def Obligations.MemoriesStayCanonical : Prop :=
  ∀ s t : State, s.MemoryCanonical → step s = .next t → t.MemoryCanonical

/-- Every step keeps the register ranges of 10_state.md R49, which the spec marks as derived, and the start bit at the
head of RXB (47_framing_fifo.md R263). -/
def Obligations.RegisterRangesStay : Prop :=
  ∀ s t : State, s.RegisterRanges → step s = .next t → t.RegisterRanges

/-- Every step keeps every accumulator, delay line and budget within the register 10_state.md section 6 gives it; the
model holds them as exact integers (00_scope.md R15, log entry 3). -/
def Obligations.RegisterWidthsSuffice : Prop :=
  ∀ s t : State, s.WidthsHold → step s = .next t → t.WidthsHold

/-- Every step keeps what 46_psk_negotiation.md R252, which the spec marks as derived, says of the negotiation
counters. -/
def Obligations.NegotiationCountersStayConsistent : Prop :=
  ∀ s t : State, s.NegotiationCounted → step s = .next t → t.NegotiationCounted

/-- Every step leaves no request outstanding, NEXT equal to DP, the line seized exactly while a datapump is
active, and CONNECT set only under a modem (derived from 48_scheduler_host.md R291, R294 and R296). -/
def Obligations.SchedulerStaysConsistent : Prop :=
  ∀ s t : State, s.Scheduled → step s = .next t → t.Scheduled

/-- The state after reset has all these invariants. -/
def Obligations.ResetStateIsGood : Prop := State.reset.Inv

/-! ### What a command may read and change -/

/-- No command but RDEV and RESET reads EVT: what it does is the same for every EVT, and it only adds events
(10_state.md R27, 60_exceptions.md R354). -/
def Obligations.EventsNeverChangeWhatACommandDoes : Prop :=
  ∀ (i : Instr) (s : State), i ≠ .rdev → i ≠ .reset →
    ∃ (t : State) (m : BitVec 11), ∀ e : BitVec 11, exec i { s with evt := e } = .next { t with evt := e ||| m }

/-- IRQ is the level (EVT & IEN) != 0, and IEN has no effect inside the machine: every command but the read and
the write of IEN itself and RESET does the same for every IEN (10_state.md R28). -/
def Obligations.InterruptMaskOnlyGatesIrq : Prop :=
  (∀ s : State, irq s = true ↔ ∃ k, k < 11 ∧ s.evt.getLsbD k = true ∧ s.ctl.ien.getLsbD k = true) ∧
  (∀ (i : Instr) (s : State), (∀ b, i ≠ .wrc 1 b) → i ≠ .rdc 1 → i ≠ .reset →
    ∃ t : State, ∀ m : BitVec 11,
      exec i { s with ctl := { s.ctl with ien := m } } = .next { t with ctl := { t.ctl with ien := m } })

/-- Which commands may change what: the S registers WRS, the control registers WRC, INBUF WRIN and STEP, the
dial string DIALC, EVT downwards RDEV, DP only ORIG, ANSW, HUP, PROC and STEP, with the SWITCH event; RESET may
change all of it, and nothing changes what the host still presents, which is the model's choice (log entry 1). -/
def Obligations.ParametersChangeOnlyByTheirCommands : Prop :=
  ∀ (i : Instr) (s t : State), exec i s = .next t →
    t.port = s.port ∧
    (i ≠ .reset →
      ((∀ a b, i ≠ .wrs a b) → t.sreg = s.sreg) ∧
      ((∀ a b, i ≠ .wrc a b) → t.ctl = s.ctl) ∧
      ((∀ a b, i ≠ .wrin a b) → (∀ b, i ≠ .step b) → t.inbuf = s.inbuf) ∧
      ((∀ b, i ≠ .dialc b) → t.dial.dialstr = s.dial.dialstr) ∧
      (i ≠ .rdev → t.evt ||| s.evt = t.evt) ∧
      (t.sched.dp ≠ s.sched.dp →
        (i = .orig ∨ i = .answ ∨ i = .hup ∨ (∃ b, i = .proc b) ∨ (∃ b, i = .step b)) ∧ t.evt.getLsbD 9 = true))

/-- The direct commands are refused in active mode; in idle mode they never set CONNECT, never request a switch,
and set no event but FRAMING, RXOVF and CMDERR (48_scheduler_host.md R318). -/
def Obligations.DirectCommandsStayOutsideTheScheduler : Prop :=
  ∀ (i : Instr) (s : State), isDirect i = true →
    (s.sched.dp ≠ .none → exec i s = errorAnswer .busy s) ∧
    (s.sched.dp = .none → ∃ (t : State) (m : BitVec 11), exec i s = .next t ∧ t.sched = s.sched ∧ t.dial = s.dial ∧
      t.inbuf = s.inbuf ∧ t.outbuf = s.outbuf ∧ t.evt = s.evt ||| (m &&& 0x418))

/-! ### Oscillator commands -/

/-- The six oscillator commands: BUSY, then RANGE, then the effect on the named oscillator and nothing else
(40_oscillator.md R105 to R111). -/
def Obligations.OscillatorCommandsTouchOneOscillator : Prop :=
  ∀ (a : BitVec 8) (b : BitVec 16) (s : State),
    (s.sched.dp ≠ .none → ∀ i ∈ [Instr.oscp a b, .osci a b, .osca a, .oscc a, .oscs a, .oscr a],
      exec i s = errorAnswer .busy s) ∧
    (s.sched.dp = .none → 11 < a.toNat →
      ∀ i ∈ [Instr.oscp a b, .osci a b, .osca a, .oscc a, .oscs a, .oscr a], exec i s = errorAnswer .range s) ∧
    (s.sched.dp = .none → ∀ i : Fin 12, a.toNat = i.val →
      exec (.oscp a b) s =
        .next { s with osc := s.osc.set i.val ⟨b.setWidth 12, s.osc[i].inc⟩ i.isLt, resp := some 0 } ∧
      exec (.osci a b) s =
        .next { s with osc := s.osc.set i.val ⟨s.osc[i].phase, b.setWidth 12⟩ i.isLt, resp := some 0 } ∧
      exec (.osca a) s =
        .next { s with
          osc := s.osc.set i.val ⟨s.osc[i].phase + s.osc[i].inc, s.osc[i].inc⟩ i.isLt
          resp := some ((s.osc[i].phase + s.osc[i].inc).setWidth 32) } ∧
      exec (.oscc a) s = .next { s with resp := some ((BitVec.ofInt 16 (cosAt s.osc[i].phase)).setWidth 32) } ∧
      exec (.oscs a) s =
        .next { s with resp := some ((BitVec.ofInt 16 (cosAt (s.osc[i].phase + 3072))).setWidth 32) } ∧
      exec (.oscr a) s =
        .next { s with resp := some (s.osc[i].phase.setWidth 32 ||| (s.osc[i].inc.setWidth 32 <<< 12)) })

/-- The named properties P1 to P8 of the cosine table (40_oscillator.md R102) and the sine's symmetry (R103), which
the spec marks as derived from the table. -/
def Obligations.CosineTableProperties : Prop :=
  cosAt 0 = 32767 ∧ cosAt 2048 = -32767 ∧ cosAt 1024 = 0 ∧ cosAt 3072 = 0 ∧
  (∀ p : BitVec 12, -32767 ≤ cosAt p ∧ cosAt p ≤ 32767) ∧
  (∀ p : BitVec 12, cosAt (p + 2048) = -cosAt p) ∧
  (∀ p : BitVec 12, cosAt (-p) = cosAt p) ∧
  (∀ p : BitVec 12, sinAt (-p) = -sinAt p) ∧
  (∀ i, i < 1024 → quarterCos (i + 1) ≤ quarterCos i) ∧
  (∀ p : BitVec 12, (cosAt p * cosAt p + sinAt p * sinAt p - 32767 * 32767).natAbs ≤ 43011) ∧
  sigma 1025 quarterCos = 21377140 ∧
  sigma 1025 (fun i => (i : Int) * quarterCos i) % 65521 = 10160 ∧
  sigma 4096 (fun i => cosAt (BitVec.ofNat 12 i)) = 0

/-- After k advances from phase p with increment c the phase is (p + k*c) mod 4096 exactly, nothing else
moves, and the increments c and -c give the same cosines and negated sines (40_oscillator.md R114, which the spec
marks as derived). -/
def Obligations.OscillatorWrapsExactly : Prop :=
  (∀ (k : Nat) (a : BitVec 8) (i : Fin 12) (s : State), s.sched.dp = .none → a.toNat = i.val → 1 ≤ k →
    ∃ t : State, execAll (List.replicate k (.osca a)) s = some t ∧
      t = { s with osc := s.osc.set i.val ⟨s.osc[i].phase + BitVec.ofNat 12 k * s.osc[i].inc, s.osc[i].inc⟩ i.isLt
                   resp := t.resp } ∧
      t.osc[i].phase.toNat = (s.osc[i].phase.toNat + k * s.osc[i].inc.toNat) % 4096) ∧
  (∀ (k : Nat) (c : BitVec 12),
    cosAt (BitVec.ofNat 12 k * -c) = cosAt (BitVec.ofNat 12 k * c) ∧
    sinAt (BitVec.ofNat 12 k * -c) = -sinAt (BitVec.ofNat 12 k * c))

/-! ### Register, status and event commands -/

/-- WRS and RDS (48_scheduler_host.md R301, R302). -/
def Obligations.SRegisterCommands : Prop :=
  ∀ (a : BitVec 8) (b : BitVec 16) (s : State),
    (15 < a.toNat → exec (.wrs a b) s = errorAnswer .range s ∧ exec (.rds a) s = errorAnswer .range s) ∧
    (∀ i : Fin 16, a.toNat = i.val →
      exec (.wrs a b) s = .next { s with sreg := s.sreg.set i.val (b.setWidth 8) i.isLt, resp := some 0 } ∧
      exec (.rds a) s = .next { s with resp := some (s.sreg[i].setWidth 32) })

/-- WRC and RDC, register by register (48_scheduler_host.md R303, R304). -/
def Obligations.ControlRegisterCommands : Prop :=
  ∀ (a : BitVec 8) (b : BitVec 16) (s : State),
    (a ≠ 1 → s.sched.dp ≠ .none → exec (.wrc a b) s = errorAnswer .busy s) ∧
    (s.sched.dp = .none → 6 < a.toNat → exec (.wrc a b) s = errorAnswer .range s) ∧
    (6 < a.toNat → exec (.rdc a) s = errorAnswer .range s) ∧
    (s.sched.dp = .none → a.toNat = 0 →
      exec (.wrc a b) s = .next { s with ctl := { s.ctl with mode := b.setWidth 2 }, resp := some 0 }) ∧
    (a.toNat = 1 → exec (.wrc a b) s = .next { s with ctl := { s.ctl with ien := b.setWidth 11 }, resp := some 0 }) ∧
    (s.sched.dp = .none → a.toNat = 2 →
      exec (.wrc a b) s = .next { s with ctl := { s.ctl with detmask := b.setWidth 4 }, resp := some 0 }) ∧
    (∀ k : Fin 4, s.sched.dp = .none → a.toNat = 3 + k.val →
      exec (.wrc a b) s =
        .next { s with ctl := { s.ctl with detfrq := s.ctl.detfrq.set k.val (b.setWidth 12) k.isLt }, resp := some 0 }) ∧
    (a.toNat = 0 → exec (.rdc a) s = .next { s with resp := some (s.ctl.mode.setWidth 32) }) ∧
    (a.toNat = 1 → exec (.rdc a) s = .next { s with resp := some (s.ctl.ien.setWidth 32) }) ∧
    (a.toNat = 2 → exec (.rdc a) s = .next { s with resp := some (s.ctl.detmask.setWidth 32) }) ∧
    (∀ k : Fin 4, a.toNat = 3 + k.val →
      exec (.rdc a) s = .next { s with resp := some (s.ctl.detfrq[k].setWidth 32) })

/-- RDST answers STATUS, field by field, and changes nothing; RDEV answers EVT and clears it
(10_state.md R30, 48_scheduler_host.md R305, R306). -/
def Obligations.StatusAndEventReads : Prop :=
  ∀ s : State,
    (∃ w : Word, exec .rdst s = .next { s with resp := some w } ∧
      w.extractLsb' 0 3 = s.sched.dp.id ∧ w.extractLsb' 3 3 = s.sched.next.id ∧ w.getLsbD 6 = s.sched.pend ∧
      w.getLsbD 7 = s.sched.dir.bit ∧ w.getLsbD 8 = s.sched.connect ∧ w.getLsbD 9 = s.sched.offhook ∧
      w.extractLsb' 10 2 = s.dial.dlstate.id ∧ w.extractLsb' 12 2 = s.neg.ph.id ∧
      w.extractLsb' 14 2 = s.neg.txm.id ∧ w.getLsbD 16 = s.fsk.fcd ∧ w.extractLsb' 17 4 = s.det.detected ∧
      w.extractLsb' 21 11 = 0) ∧
    exec .rdev s = .next { s with evt := 0, resp := some (s.evt.setWidth 32) }

/-! ### Call control -/

/-- NOP, RESET and HUP, accepted in every state; RESET leaves every register and RAM of State at its reset value
(48_scheduler_host.md R307, R308, R313). -/
def Obligations.NopResetAndHangUp : Prop :=
  ∀ s : State,
    exec .nop s = .next { s with resp := some 0 } ∧
    (∃ l : List HostInput, exec .reset s = .next { State.reset with port := l, resp := some 0 }) ∧
    exec .hup s = .next { s with
      evt := s.evt ||| 0x200
      sched := { s.sched with dp := .none, next := .dp .none, pend := false, connect := false, offhook := false }
      resp := some 0 }

/-- The state after reset: every value of 10_state.md R48, and the reset sequence of 70_reset_and_hazards.md
R371 reaches the same state from all zeros. -/
def Obligations.ResetStateIsTheTable : Prop :=
  State.reset.sreg = #v[0, 0, 43, 13, 10, 8, 2, 30, 2, 6, 14, 95, 0, 0, 0, 0] ∧
  State.reset.ctl = ⟨0, 0, 0, #v[0, 0, 0, 0]⟩ ∧ State.reset.evt = 0 ∧
  State.reset.sched = ⟨.none, .dp .none, false, .originator, false, false, 0⟩ ∧
  State.reset.dial = ⟨.wait, 0, 0, 0, []⟩ ∧
  (∀ i : Fin 12, State.reset.osc[i] = ⟨0, #v[0, 0, 0, 0, 0, 0, 0, 502, 845, 947, 614, 1229][i]⟩) ∧
  State.reset.det = ⟨Vector.replicate 4 0, Vector.replicate 4 0, 0, 0, 0, 0⟩ ∧ State.reset.dtrem = 0 ∧
  State.reset.tim = ⟨1, 1, 0, 0, 600⟩ ∧
  State.reset.fsk = ⟨.originator, true, 8000, Vector.replicate 27 0, false, 0, 6, 14⟩ ∧
  State.reset.psk = ⟨.originator, 8000, Vector.replicate 13 0, Vector.replicate 13 0, Vector.replicate 8 0,
    Vector.replicate 13 0, Vector.replicate 13 0⟩ ∧
  State.reset.neg = ⟨.raw, .raw, 0, 0, 0, 96, false, 0⟩ ∧ State.reset.scr = ⟨0, 0, 0, 0⟩ ∧
  State.reset.bq = ⟨0, 0, 0, 0⟩ ∧
  State.reset.rxfifo.head = 0 ∧ State.reset.rxfifo.tail = 0 ∧ State.reset.txfifo.head = 0 ∧
  State.reset.txfifo.tail = 0 ∧
  (∀ i, State.reset.inbuf.read i = 0 ∧ State.reset.outbuf.read i = 0 ∧ State.reset.dial.dialstr.read i = 0 ∧
    State.reset.rxfifo.cells.read i = 0 ∧ State.reset.txfifo.cells.read i = 0) ∧
  irq State.reset = false ∧
  State.reset = bqInit (pskInit .originator (fskInit .originator (detInit { State.reset with
    osc := Vector.replicate 12 ⟨0, 0⟩
    tim := ⟨0, 0, 0, 0, 0⟩
    fsk := ⟨.originator, false, 0, Vector.replicate 27 0, false, 0, 0, 0⟩
    psk := { State.reset.psk with psymacc := 0 }
    neg := ⟨.raw, .raw, 0, 0, 0, 0, false, 0⟩ })))

/-- ORIG is refused in active mode and else creates the dialer: DIR, OFFHOOK, the captured S8, the S6 wait, the
detector cleared with the increments of DETFRQ0..3, and the SWITCH event (48_scheduler_host.md R311,
42_dtmf_dialer.md R148). -/
def Obligations.OriginateStartsTheDialer : Prop :=
  ∀ s : State,
    (s.sched.dp ≠ .none → exec .orig s = errorAnswer .busy s) ∧
    (s.sched.dp = .none → ∃ t : State, exec .orig s = .next t ∧
      t = { s with
        osc := t.osc
        evt := s.evt ||| 0x200
        sched := ⟨.dialer, .dp .dialer, false, .originator, false, true, s.sched.lt⟩
        dial := { s.dial with dlstate := .wait, dlpos := 0, dls8 := s.sreg[8] }
        dtrem := 0
        det := ⟨Vector.replicate 4 0, Vector.replicate 4 0, 0, 0, 0, s.sreg[6].toNat * 8000⟩
        resp := some 1 } ∧
      (∀ k : Fin 4, t.osc[slotOsc k] = ⟨0, s.ctl.detfrq[k]⟩) ∧
      (∀ j : Fin 12, j.val = 0 ∨ 4 < j.val → t.osc[j] = s.osc[j]))

/-- ANSW is refused in active mode; else it creates the modem MODE selects as answerer, or, MODE being reserved,
fails and releases the line (48_scheduler_host.md R312). -/
def Obligations.AnswerStartsTheSelectedModem : Prop :=
  ∀ s : State,
    (s.sched.dp ≠ .none → exec .answ s = errorAnswer .busy s) ∧
    (s.sched.dp = .none → s.ctl.mode = 0 → ∃ t : State, exec .answ s = .next t ∧
      t = { s with
        osc := ((s.osc.set 7 ⟨0, 845⟩).set 8 ⟨0, 502⟩).set 9 ⟨0, 604⟩
        evt := s.evt ||| 0x200
        sched := ⟨.fsk, .dp .fsk, false, .answerer, false, true, s.sreg[7].toNat * 8000⟩
        fsk := ⟨.answerer, true, 8000, Vector.replicate 27 0, false, 0, s.sreg[9], s.sreg[10]⟩
        tim := ⟨1, 1, 0, 0, 300⟩
        bq := ⟨0, 0, 0, 0⟩
        resp := some 3 }) ∧
    (s.sched.dp = .none → s.ctl.mode = 1 → ∃ t : State, exec .answ s = .next t ∧
      t = { s with
        osc := (s.osc.set 10 ⟨0, 1229⟩).set 11 ⟨0, 614⟩
        evt := s.evt ||| 0x200
        sched := ⟨.psk, .dp .psk, false, .answerer, false, true, s.sreg[7].toNat * 8000⟩
        psk := ⟨.answerer, 8000, Vector.replicate 13 0, Vector.replicate 13 0, Vector.replicate 8 0,
          Vector.replicate 13 0, Vector.replicate 13 0⟩
        neg := ⟨.raw, .raw, 0, 0, 0, 96, false, 0⟩
        scr := ⟨0, 0, 0, 0⟩
        tim := ⟨1, 1, 0, 0, 600⟩
        bq := ⟨0, 0, 0, 0⟩
        resp := some 4 }) ∧
    (s.sched.dp = .none → s.ctl.mode = 2 ∨ s.ctl.mode = 3 → ∃ t : State, exec .answ s = .next t ∧
      t = { s with
        evt := s.evt ||| 0x220
        sched := ⟨.none, .dp .none, false, .answerer, false, false, s.sched.lt⟩
        resp := some 0 })

/-- DIALC and DIALX: BUSY under the dialer, FULL at 64 bytes, else the byte goes to the cell DIALLEN names and to
no other; DIALX empties the string and leaves the cells (48_scheduler_host.md R309, R310). -/
def Obligations.DialStringCommands : Prop :=
  ∀ (b : BitVec 16) (s : State), s.MemoryCanonical →
    (s.sched.dp = .dialer → exec (.dialc b) s = errorAnswer .busy s ∧ exec .dialx s = errorAnswer .busy s) ∧
    (s.sched.dp ≠ .dialer →
      exec .dialx s = .next { s with dial := { s.dial with diallen := 0 }, resp := some 0 } ∧
      (s.dial.diallen = 64 → exec (.dialc b) s = errorAnswer .full s) ∧
      (s.dial.diallen ≠ 64 → ∃ t : State, exec (.dialc b) s = .next t ∧
        t = { s with
          dial := { s.dial with dialstr := t.dial.dialstr, diallen := s.dial.diallen + 1 }
          resp := some (BitVec.ofNat 32 (s.dial.diallen + 1)) } ∧
        t.dial.dialstr.read s.dial.diallen = b.setWidth 8 ∧
        ∀ j, j ≠ s.dial.diallen → t.dial.dialstr.read j = s.dial.dialstr.read j))

/-! ### Sample buffers and blocks -/

/-- WRIN writes one cell of INBUF and no other; RDOUT reads one cell of OUTBUF and changes nothing
(48_scheduler_host.md R314, R315). -/
def Obligations.SampleCellCommands : Prop :=
  ∀ (a : BitVec 8) (b : BitVec 16) (s : State), s.MemoryCanonical →
    (∃ t : State, exec (.wrin a b) s = .next t ∧ t = { s with inbuf := t.inbuf, resp := some 0 } ∧
      t.inbuf.read a.toNat = b ∧ ∀ j, j ≠ a.toNat → t.inbuf.read j = s.inbuf.read j) ∧
    exec (.rdout a) s = .next { s with resp := some ((s.outbuf.read a.toNat).setWidth 32) }

/-- PROC: RANGE, else one block, its response, the zero-fill, the cells at and above the count untouched, the
switch decided by PEND alone, and DP NONE answering silence (48_scheduler_host.md R316, R319). Under the detector, FSK
and PSK a block takes its samples in index order (20_memory.md R70): one sample more is the same block, then, unless it
has switched, a STEP of the next cell of INBUF whose output goes to the next cell of OUTBUF; a block that has switched
is filled with one more zero. -/
def Obligations.ProcProcessesOneBlock : Prop :=
  ∀ (b : BitVec 16) (s : State),
    (b.toNat < 1 ∨ 256 < b.toNat → exec (.proc b) s = errorAnswer .range s) ∧
    (1 ≤ b.toNat → b.toNat ≤ 256 → s.MemoryCanonical → ∃ (t : State) (p : Nat) (sw : Bool),
      exec (.proc b) s = .next t ∧ p = (process b.toNat s).produced ∧ sw = (process b.toNat s).switched ∧
      t = { (process b.toNat s).after with resp := t.resp } ∧
      t.resp = some (BitVec.ofNat 32 p ||| ((BitVec.ofBool sw).setWidth 32 <<< 12) |||
        (t.sched.dp.id.setWidth 32 <<< 16)) ∧
      p ≤ b.toNat ∧ (∀ i, p ≤ i → i < b.toNat → t.outbuf.read i = 0) ∧
      (∀ i, b.toNat ≤ i → t.outbuf.read i = s.outbuf.read i) ∧
      t.inbuf = s.inbuf ∧ t.sreg = s.sreg ∧ t.ctl = s.ctl ∧ t.dial.dialstr = s.dial.dialstr ∧
      t.dial.diallen = s.dial.diallen ∧ t.sched.dir = s.sched.dir ∧ t.sched.pend = false ∧
      (sw = false → t.sched.dp = s.sched.dp) ∧ (sw = true → t.evt.getLsbD 9 = true ∧ t.sched.connect = false) ∧
      (s.sched.dp = .none → s.sched.pend = false →
        p = 0 ∧ sw = false ∧ t = { s with outbuf := t.outbuf, resp := some 0 })) ∧
    (1 ≤ b.toNat → b.toNat < 256 → s.MemoryCanonical → s.sched.pend = false →
      s.sched.dp = .detector ∨ s.sched.dp = .fsk ∨ s.sched.dp = .psk → ∃ (u t : State) (r : Word),
        exec (.proc b) s = .next u ∧ u.resp = some r ∧ exec (.proc (b + 1)) s = .next t ∧
        (r.getLsbD 12 = true → t = { u with outbuf := u.outbuf.write b.toNat 0 }) ∧
        (r.getLsbD 12 = false → r.toNat % 4096 = b.toNat ∧ ∃ (v : State) (w : Word),
          exec (.step (s.inbuf.read b.toNat)) u = .next v ∧ v.resp = some w ∧
          t = { v with
            inbuf := s.inbuf
            outbuf := u.outbuf.write b.toNat (v.outbuf.read 0)
            resp := some (BitVec.ofNat 32 (b.toNat + (w.getLsbD 16).toNat) |||
              ((BitVec.ofBool (w.getLsbD 17)).setWidth 32 <<< 12) ||| (v.sched.dp.id.setWidth 32 <<< 16)) }))

/-- STEP b writes its operand to INBUF[0], is PROC of one sample from there, and answers the output sample, p and
sw in bits 15:0, 16 and 17 (48_scheduler_host.md R317). -/
def Obligations.StepIsABlockOfOneSample : Prop :=
  ∀ (b : BitVec 16) (s : State), ∃ (t : State) (w r : Word),
    exec (.proc 1) { s with inbuf := s.inbuf.write 0 b } = .next t ∧ t.resp = some r ∧
    exec (.step b) s = .next { t with resp := some w } ∧
    w.extractLsb' 0 16 = t.outbuf.read 0 ∧ w.getLsbD 16 = r.getLsbD 0 ∧ w.getLsbD 17 = r.getLsbD 12 ∧
    w.extractLsb' 18 14 = 0 ∧ r.toNat % 4096 ≤ 1

/-- What one sample does under each datapump, and when a datapump gives up. An expired line timer or an exhausted
detector budget hangs up before the first sample; the timer counts one down per sample without CONNECT and not at all
with it. One sample of the detector, of the dialer's wait, of FSK and of PSK is what the unit's direct commands do to
the same machine with DP at NONE, a cell of OUTBUF, and the events and switches of that datapump
(48_scheduler_host.md R297 to R300, 42_dtmf_dialer.md R149). -/
def Obligations.ExpiredTimersHangUp : Prop :=
  (∀ (b : BitVec 16) (s : State), 1 ≤ b.toNat → b.toNat ≤ 256 →
    ((s.sched.dp = .fsk ∨ s.sched.dp = .psk) ∧ s.sched.connect = false ∧ s.sched.lt = 0) ∨
      (s.sched.dp = .detector ∧ s.det.tmo = 0) →
    ∃ t : State, exec (.proc b) s = .next t ∧
      t = { s with
        evt := s.evt ||| 0x202
        sched := s.sched.released
        outbuf := t.outbuf
        resp := some 0x1000 }) ∧
  (∀ (b : BitVec 16) (s : State), s.sched.dp = .fsk ∨ s.sched.dp = .psk → s.sched.pend = false →
    s.sched.connect = false → 0 < s.sched.lt →
    ∃ t : State, exec (.step b) s = .next t ∧ t.sched.lt = s.sched.lt - 1) ∧
  (∀ (b : BitVec 16) (s : State), 1 ≤ b.toNat → b.toNat ≤ 256 → s.sched.dp = .fsk ∨ s.sched.dp = .psk →
    s.sched.pend = false → s.sched.connect = true → ∃ t : State, exec (.proc b) s = .next t ∧ t.sched.lt = s.sched.lt) ∧
  (∀ (b : BitVec 16) (s : State), s.MemoryCanonical → s.sched.dp = .detector → s.sched.pend = false → 0 < s.det.tmo →
    ∃ (d : State) (r : Word), exec (.dets b) s.parked = .next d ∧ d.resp = some r ∧
      (r.extractLsb' 0 2 ≠ 2 →
        exec (.step b) s = .next { d.sampled b 0 s with sched := s.sched, resp := some 0x10000 }) ∧
      (r.extractLsb' 0 2 = 2 →
        (s.ctl.mode = 0 → ∃ f q : State, exec (.fski s.sched.dir.operand) d = .next f ∧ exec .bqi f = .next q ∧
          exec (.step b) s = .next { q.sampled b 0 s with
            evt := s.evt ||| 0x240
            sched := ⟨.fsk, .dp .fsk, false, s.sched.dir, false, s.sched.offhook, s.sreg[7].toNat * 8000⟩
            resp := some 0x30000 }) ∧
        (s.ctl.mode = 1 → ∃ f q : State, exec (.pski s.sched.dir.operand) d = .next f ∧ exec .bqi f = .next q ∧
          exec (.step b) s = .next { q.sampled b 0 s with
            evt := s.evt ||| 0x240
            sched := ⟨.psk, .dp .psk, false, s.sched.dir, false, s.sched.offhook, s.sreg[7].toNat * 8000⟩
            resp := some 0x30000 }) ∧
        (s.ctl.mode = 2 ∨ s.ctl.mode = 3 →
          exec (.step b) s = .next { d.sampled b 0 s with
            evt := s.evt ||| 0x260
            sched := s.sched.released
            resp := some 0x30000 }))) ∧
  (∀ (b : BitVec 16) (s : State), s.MemoryCanonical → s.sched.dp = .dialer → s.sched.pend = false →
    s.dial.dlstate = .wait → 0 < s.det.tmo →
    ∃ (d : State) (r : Word), exec (.dets b) s.parked = .next d ∧ d.resp = some r ∧
      exec (.step b) s = .next { d.sampled b 0 s with
        evt := if r.extractLsb' 0 2 = 2 then s.evt ||| 0x40 else s.evt
        sched := s.sched
        resp := some 0x10000 }) ∧
  (∀ (b : BitVec 16) (s : State), s.MemoryCanonical → s.sched.dp = .fsk → s.sched.pend = false →
    s.sched.connect = true ∨ 0 < s.sched.lt →
    ∃ (m d : State) (y : Word) (lt : Nat), exec .fskm s.parked = .next m ∧ m.resp = some y ∧
      exec (.fskd b) m = .next d ∧ lt = (if s.sched.connect then s.sched.lt else s.sched.lt - 1) ∧
      (d.fsk.fcd = s.fsk.fcd →
        exec (.step b) s = .next { d.sampled b (y.setWidth 16) s with
          sched := { s.sched with lt := lt }
          resp := some (y ||| 0x10000) }) ∧
      (s.fsk.fcd = false → d.fsk.fcd = true →
        exec (.step b) s = .next { d.sampled b (y.setWidth 16) s with
          evt := d.evt ||| 0x1
          sched := { s.sched with lt := lt, connect := true }
          resp := some (y ||| 0x10000) }) ∧
      (s.fsk.fcd = true → d.fsk.fcd = false →
        exec (.step b) s = .next { d.sampled b (y.setWidth 16) s with
          evt := d.evt ||| 0x300
          sched := { s.sched.released with lt := lt }
          resp := some (y ||| 0x30000) })) ∧
  (∀ (b : BitVec 16) (s : State), s.MemoryCanonical → s.sched.dp = .psk → s.sched.pend = false →
    s.sched.connect = true ∨ 0 < s.sched.lt →
    ∃ (m d : State) (y : Word) (lt : Nat), exec .pskm s.parked = .next m ∧ m.resp = some y ∧
      exec (.pskd b) m = .next d ∧ lt = (if s.sched.connect then s.sched.lt else s.sched.lt - 1) ∧
      (d.neg.ph = s.neg.ph ∨ d.neg.ph = .scrambled →
        exec (.step b) s = .next { d.sampled b (y.setWidth 16) s with
          sched := { s.sched with lt := lt }
          resp := some (y ||| 0x10000) }) ∧
      (s.neg.ph ≠ .data → d.neg.ph = .data →
        exec (.step b) s = .next { d.sampled b (y.setWidth 16) s with
          evt := d.evt ||| 0x1
          sched := { s.sched with lt := lt, connect := true }
          resp := some (y ||| 0x10000) }) ∧
      (s.neg.ph ≠ .failed → d.neg.ph = .failed →
        exec (.step b) s = .next { d.sampled b (y.setWidth 16) s with
          evt := d.evt ||| 0x4
          sched := { s.sched with lt := lt }
          resp := some (y ||| 0x10000) }))

/-! ### Dialer -/

/-- While a digit sounds, a block of the dialer is tone up to the end of the digit and fetches no token: p is the
smaller of the count and DTREM, sample i is the sum of the two cosines at i increments on, DTREM counts p down
(42_dtmf_dialer.md R144, R149). -/
def Obligations.DialerToneBlock : Prop :=
  ∀ (b : BitVec 16) (s : State), 1 ≤ b.toNat → b.toNat ≤ 256 → s.MemoryCanonical → s.sched.dp = .dialer →
    s.sched.pend = false → s.dial.dlstate = .dial → 0 < s.dtrem →
    ∃ t : State, exec (.proc b) s = .next t ∧
      t = { s with
        osc := t.osc
        dtrem := s.dtrem - min b.toNat s.dtrem
        outbuf := t.outbuf
        resp := some (BitVec.ofNat 32 (min b.toNat s.dtrem) ||| 0x10000) } ∧
      (∀ i, i < min b.toNat s.dtrem → t.outbuf.read i = BitVec.ofInt 16 (asr
        (cosAt (s.osc[5].phase + BitVec.ofNat 12 i * s.osc[5].inc) +
          cosAt (s.osc[6].phase + BitVec.ofNat 12 i * s.osc[6].inc)) 2)) ∧
      t.osc[5] = ⟨s.osc[5].phase + BitVec.ofNat 12 (min b.toNat s.dtrem) * s.osc[5].inc, s.osc[5].inc⟩ ∧
      t.osc[6] = ⟨s.osc[6].phase + BitVec.ofNat 12 (min b.toNat s.dtrem) * s.osc[6].inc, s.osc[6].inc⟩ ∧
      (∀ j : Fin 12, j ≠ 5 → j ≠ 6 → t.osc[j] = s.osc[j])

/-- When a wait or a digit is over, the next block of the dialer fetches exactly one token: a key starts its tone,
'w' or ',' a pause of DLS8 seconds, any other byte or the end of the string finishes dialing and hands the line to
the detector with a budget of S7 seconds. A block inside a wait is silence that spends the budget; a wait that ends
inside a block is that silence, then the fetch, with p the budget there was (42_dtmf_dialer.md R149 to R151). -/
def Obligations.DialerFetchesOneToken : Prop :=
  (∀ (b : BitVec 16) (s : State), 1 ≤ b.toNat → b.toNat ≤ 256 → s.sched.dp = .dialer → s.sched.pend = false →
    (s.dial.dlstate = .dial ∧ s.dtrem = 0) ∨ (s.dial.dlstate = .wait ∧ s.det.tmo = 0) →
    ∃ t : State, exec (.proc b) s = .next t ∧
      (∀ row col : Fin 4, s.dial.dlpos < s.dial.diallen →
        dtmfDecode (s.dial.dialstr.read s.dial.dlpos) = some (row, col) →
        t = { s with
          osc := (s.osc.set 5 ⟨0, #v[357, 394, 436, 482][row]⟩).set 6 ⟨0, #v[619, 684, 756, 836][col]⟩
          dial := { s.dial with dlstate := .dial, dlpos := s.dial.dlpos + 1 }
          dtrem := 1600
          outbuf := t.outbuf
          resp := some 0x10000 }) ∧
      (s.dial.dlpos < s.dial.diallen →
        s.dial.dialstr.read s.dial.dlpos = 0x77 ∨ s.dial.dialstr.read s.dial.dlpos = 0x2C →
        t = { s with
          osc := t.osc
          dial := { s.dial with dlstate := .wait, dlpos := s.dial.dlpos + 1 }
          det := ⟨Vector.replicate 4 0, Vector.replicate 4 0, 0, 0, s.det.detected, s.dial.dls8.toNat * 8000⟩
          outbuf := t.outbuf
          resp := some 0x10000 } ∧
        (∀ k : Fin 4, t.osc[slotOsc k] = ⟨0, s.osc[slotOsc k].inc⟩) ∧
        (∀ j : Fin 12, j.val = 0 ∨ 4 < j.val → t.osc[j] = s.osc[j])) ∧
      (s.dial.diallen ≤ s.dial.dlpos ∨ (s.dial.dlpos < s.dial.diallen ∧
          dtmfDecode (s.dial.dialstr.read s.dial.dlpos) = none ∧
          s.dial.dialstr.read s.dial.dlpos ≠ 0x77 ∧ s.dial.dialstr.read s.dial.dlpos ≠ 0x2C) →
        t = { s with
          osc := t.osc
          evt := s.evt ||| 0x280
          sched := { s.sched with dp := .detector, next := .dp .detector, pend := false, connect := false }
          dial := { s.dial with dlstate := .finished, dlpos := t.dial.dlpos }
          det := ⟨Vector.replicate 4 0, Vector.replicate 4 0, 0, 0, 0, s.sreg[7].toNat * 8000⟩
          outbuf := t.outbuf
          resp := some 0x21000 } ∧
        t.dial.dlpos = (if s.dial.dlpos < s.dial.diallen then s.dial.dlpos + 1 else s.dial.dlpos) ∧
        (∀ k : Fin 4, t.osc[slotOsc k] = ⟨0, s.ctl.detfrq[k]⟩) ∧
        (∀ j : Fin 12, j.val = 0 ∨ 4 < j.val → t.osc[j] = s.osc[j]))) ∧
  (∀ (b : BitVec 16) (s : State), 1 ≤ b.toNat → b.toNat ≤ 256 → s.MemoryCanonical → s.sched.dp = .dialer →
    s.sched.pend = false → s.dial.dlstate = .wait → 0 < s.det.tmo →
    (b.toNat ≤ s.det.tmo → ∃ u : State, exec (.proc b) s = .next u ∧
      u = { s with
        osc := u.osc
        evt := u.evt
        det := u.det
        outbuf := u.outbuf
        resp := some (b.setWidth 32 ||| 0x10000) } ∧
      (u.evt = s.evt ∨ u.evt = s.evt ||| 0x40) ∧ u.det.tmo = s.det.tmo - b.toNat ∧
      (∀ i, i < b.toNat → u.outbuf.read i = 0) ∧ (∀ i, b.toNat ≤ i → u.outbuf.read i = s.outbuf.read i)) ∧
    (s.det.tmo < b.toNat → ∃ (u v t : State) (r : Word),
      exec (.proc (BitVec.ofNat 16 s.det.tmo)) s = .next u ∧ exec (.proc 1) u = .next v ∧ v.resp = some r ∧
      u.det.tmo = 0 ∧ u.dial = s.dial ∧ u.sched = s.sched ∧ exec (.proc b) s = .next t ∧
      t = { v with outbuf := t.outbuf, resp := some (r ||| BitVec.ofNat 32 s.det.tmo) } ∧
      (∀ i, i < b.toNat → t.outbuf.read i = 0) ∧ (∀ i, b.toNat ≤ i → t.outbuf.read i = s.outbuf.read i)))

/-! ### Tone detector and DTMF generator -/

/-- DETI, DETT and DETR (41_tone_detector.md R123, R127, R128, R130). -/
def Obligations.DetectorSetupAndResult : Prop :=
  ∀ (a : BitVec 8) (b : BitVec 16) (s : State),
    (s.sched.dp ≠ .none → exec .deti s = errorAnswer .busy s ∧ exec (.dett a b) s = errorAnswer .busy s) ∧
    (s.sched.dp = .none →
      (∃ t : State, exec .deti s = .next t ∧
        t = { s with
          osc := t.osc
          det := ⟨Vector.replicate 4 0, Vector.replicate 4 0, 0, 0, 0, s.det.tmo⟩
          resp := some 0 } ∧
        (∀ k : Fin 4, t.osc[slotOsc k] = ⟨0, s.ctl.detfrq[k]⟩) ∧
        (∀ j : Fin 12, j.val = 0 ∨ 4 < j.val → t.osc[j] = s.osc[j])) ∧
      exec (.dett a b) s =
        .next { s with det := { s.det with tmo := a.toNat * 65536 + b.toNat }, resp := some 0 }) ∧
    (s.det.wcnt < 512 →
      exec .detr s = .next { s with resp := some (s.det.detected.setWidth 32 ||| BitVec.ofNat 32 (16 * s.det.wcnt)) })

/-- DETS: with no budget TIMEOUT and no change; else the four correlations, the block energy and the counts
advance by one sample; the 256th sample of a window judges every slot by the floor and the multiple, clears the
sums and phases, and answers HIT or WINDOW (41_tone_detector.md R124, R125, R129). -/
def Obligations.DetectorStepCorrelatesAndJudges : Prop :=
  ∀ (b : BitVec 16) (s : State),
    (s.sched.dp ≠ .none → exec (.dets b) s = errorAnswer .busy s) ∧
    (s.sched.dp = .none → s.det.tmo = 0 →
      exec (.dets b) s = .next { s with resp := some (3 ||| (s.det.detected.setWidth 32 <<< 4)) }) ∧
    (s.sched.dp = .none → 0 < s.det.tmo → ∃ (t : State) (v : Int) (i q : Fin 4 → Int) (e : Nat),
      exec (.dets b) s = .next t ∧ v = asr b.toInt 4 ∧
      (∀ k : Fin 4, i k = s.det.di[k] + v * cosAt s.osc[slotOsc k].phase) ∧
      (∀ k : Fin 4, q k = s.det.dq[k] + v * sinAt s.osc[slotOsc k].phase) ∧
      (e : Int) = s.det.de + v * v ∧
      t = { s with osc := t.osc, det := t.det, resp := t.resp } ∧
      (∀ j : Fin 12, j.val = 0 ∨ 4 < j.val → t.osc[j] = s.osc[j]) ∧
      t.det.tmo = s.det.tmo - 1 ∧
      (s.det.wcnt ≠ 255 →
        (∀ k : Fin 4, t.det.di[k] = i k ∧ t.det.dq[k] = q k ∧
          t.osc[slotOsc k] = ⟨s.osc[slotOsc k].phase + s.osc[slotOsc k].inc, s.osc[slotOsc k].inc⟩) ∧
        t.det.de = e ∧ t.det.wcnt = s.det.wcnt + 1 ∧ t.det.detected = s.det.detected ∧
        t.resp = some (s.det.detected.setWidth 32 <<< 4)) ∧
      (s.det.wcnt = 255 →
        (∀ k : Fin 4, t.det.di[k] = 0 ∧ t.det.dq[k] = 0 ∧ t.osc[slotOsc k] = ⟨0, s.osc[slotOsc k].inc⟩ ∧
          (t.det.detected.getLsbD k.val = true ↔
            32768 < e ∧ (32 * e : Int) < asr (i k) 15 * asr (i k) 15 + asr (q k) 15 * asr (q k) 15)) ∧
        t.det.de = 0 ∧ t.det.wcnt = 0 ∧
        t.resp = some ((if t.det.detected &&& s.ctl.detmask = 0 then 1 else 2) |||
          (t.det.detected.setWidth 32 <<< 4))))

/-- The budget is spent one sample at a time, and nothing of the machine moves but the detector and its four
oscillators; a whole window of samples
within -16..15, silence among them, never raises a flag (41_tone_detector.md R126, and R131, which the spec marks as
derived). -/
def Obligations.DetectorBudgetAndSilence : Prop :=
  (∀ (bs : List (BitVec 16)) (s : State), s.sched.dp = .none → bs.length ≤ s.det.tmo →
    ∃ t : State, execAll (bs.map .dets) s = some t ∧ t.det.tmo = s.det.tmo - bs.length ∧
      t = { s with osc := t.osc, det := t.det, resp := t.resp } ∧
      (∀ j : Fin 12, j.val = 0 ∨ 4 < j.val → t.osc[j] = s.osc[j])) ∧
  (∀ (bs : List (BitVec 16)) (s : State), s.sched.dp = .none → bs.length = 256 → 256 ≤ s.det.tmo → s.det.wcnt = 0 →
    s.det.de = 0 → (∀ b ∈ bs, -16 ≤ b.toInt ∧ b.toInt ≤ 15) →
    ∃ t : State, execAll (bs.map .dets) s = some t ∧ t.det.detected = 0 ∧ t.det.wcnt = 0 ∧ t.resp = some 1)

/-- DTK starts the tone pair of a key character and fails for every other byte; DTS answers one sample, which lies
in -16384..16383, or 0 with done = 1 (42_dtmf_dialer.md R142 to R146). -/
def Obligations.DtmfCommands : Prop :=
  (∀ (c : Byte) (row col : Fin 4), dtmfDecode c = some (row, col) ↔
    [[0x31, 0x32, 0x33, 0x41], [0x34, 0x35, 0x36, 0x42], [0x37, 0x38, 0x39, 0x43], [0x2A, 0x30, 0x23, 0x44]][row][col]? =
      some c) ∧
  (∀ (b : BitVec 16) (s : State),
    (s.sched.dp ≠ .none → exec (.dtk b) s = errorAnswer .busy s ∧ exec .dts s = errorAnswer .busy s) ∧
    (s.sched.dp = .none → dtmfDecode (b.setWidth 8) = none → exec (.dtk b) s = errorAnswer .badkey s) ∧
    (s.sched.dp = .none → ∀ row col : Fin 4, dtmfDecode (b.setWidth 8) = some (row, col) →
      exec (.dtk b) s = .next { s with
        osc := (s.osc.set 5 ⟨0, #v[357, 394, 436, 482][row]⟩).set 6 ⟨0, #v[619, 684, 756, 836][col]⟩
        dtrem := 1600
        resp := some 0 }) ∧
    (s.sched.dp = .none → s.dtrem = 0 → exec .dts s = .next { s with resp := some 0x10000 }) ∧
    (s.sched.dp = .none → 0 < s.dtrem → ∃ y : Int, y = asr (cosAt s.osc[5].phase + cosAt s.osc[6].phase) 2 ∧
      -16384 ≤ y ∧ y ≤ 16383 ∧
      exec .dts s = .next { s with
        osc := (s.osc.set 5 ⟨s.osc[5].phase + s.osc[5].inc, s.osc[5].inc⟩).set 6
          ⟨s.osc[6].phase + s.osc[6].inc, s.osc[6].inc⟩
        dtrem := s.dtrem - 1
        resp := some ((BitVec.ofInt 16 y).setWidth 32) }))

/-! ### Symbol timing and FSK -/

/-- TIMI and TIMS: the initial values, and the step with its three ways to end (43_symbol_timing_fsk.md R166, R167,
R169, R170). -/
def Obligations.SymbolTimingCommands : Prop :=
  ∀ (a : BitVec 8) (b : BitVec 16) (s : State),
    (s.sched.dp ≠ .none → exec (.timi a b) s = errorAnswer .busy s ∧ exec (.tims a) s = errorAnswer .busy s) ∧
    (s.sched.dp = .none → b.toNat < 1 ∨ 8000 < b.toNat → exec (.timi a b) s = errorAnswer .range s) ∧
    (s.sched.dp = .none → 1 ≤ b.toNat → b.toNat ≤ 8000 →
      exec (.timi a b) s = .next { s with tim := ⟨a.setWidth 2, a.setWidth 2, 0, 0, b.toNat⟩, resp := some 0 }) ∧
    (s.sched.dp = .none → ∃ (cand : BitVec 2) (acc bit : Nat),
      cand = a.setWidth 2 ∧
      acc = (if cand = s.tim.tcur then 0 else if cand = s.tim.tcand then s.tim.tacc + s.tim.trate else s.tim.trate) ∧
      bit = min (s.tim.bacc + s.tim.trate) 65535 ∧
      (cand ≠ s.tim.tcur → 8000 ≤ 2 * acc →
        exec (.tims a) s = .next { s with
          tim := ⟨cand, cand, 0, 0, s.tim.trate⟩
          resp := some (1 ||| (cand.setWidth 32 <<< 1)) }) ∧
      (cand = s.tim.tcur ∨ 2 * acc < 8000 → 8000 ≤ bit → acc = 0 →
        exec (.tims a) s = .next { s with
          tim := ⟨s.tim.tcur, cand, acc, bit - 8000, s.tim.trate⟩
          resp := some (1 ||| (s.tim.tcur.setWidth 32 <<< 1)) }) ∧
      (cand = s.tim.tcur ∨ 2 * acc < 8000 → bit < 8000 ∨ acc ≠ 0 →
        exec (.tims a) s = .next { s with
          tim := ⟨s.tim.tcur, cand, acc, bit, s.tim.trate⟩
          resp := some (s.tim.tcur.setWidth 32 <<< 1) }))

/-- The timing unit's clock: with the current value repeated, the k-th re-emission is on step ceil(8000*k/rate);
another value is confirmed on the step where it has been seen ceil(8000/(2*rate)) times in a row, and a shorter
glitch leaves no trace but in the bit counter (43_symbol_timing_fsk.md R168, which the spec marks as derived). -/
def Obligations.SymbolTimingClock : Prop :=
  (∀ (n : Nat) (a : BitVec 8) (s : State), s.sched.dp = .none → 1 ≤ n → a.setWidth 2 = s.tim.tcur → s.tim.tacc = 0 →
    s.tim.bacc = 0 → 1 ≤ s.tim.trate → s.tim.trate ≤ 8000 →
    ∃ t : State, execAll (List.replicate n (.tims a)) s = some t ∧
      t = { s with
        tim := ⟨s.tim.tcur, s.tim.tcur, 0, n * s.tim.trate % 8000, s.tim.trate⟩
        resp := t.resp } ∧
      ((∃ k, 1 ≤ k ∧ n = (8000 * k + (s.tim.trate - 1)) / s.tim.trate) →
        t.resp = some (1 ||| (s.tim.tcur.setWidth 32 <<< 1))) ∧
      ((∀ k, 1 ≤ k → n ≠ (8000 * k + (s.tim.trate - 1)) / s.tim.trate) →
        t.resp = some (s.tim.tcur.setWidth 32 <<< 1))) ∧
  (∀ (n : Nat) (a c : BitVec 8) (s : State), s.sched.dp = .none → a.setWidth 2 ≠ s.tim.tcur →
    c.setWidth 2 = s.tim.tcur → s.tim.tacc = 0 → 1 ≤ s.tim.trate →
    (1 ≤ n → 2 * (n * s.tim.trate) < 8000 →
      (∃ t : State, execAll (List.replicate n (.tims a)) s = some t ∧
        t = { s with
          tim := ⟨s.tim.tcur, a.setWidth 2, n * s.tim.trate, min (s.tim.bacc + n * s.tim.trate) 65535, s.tim.trate⟩
          resp := some (s.tim.tcur.setWidth 32 <<< 1) }) ∧
      (∃ t : State, execAll (List.replicate n (.tims a) ++ [.tims c]) s = some t ∧
        t = { s with tim := ⟨s.tim.tcur, s.tim.tcur, 0, t.tim.bacc, s.tim.trate⟩, resp := t.resp })) ∧
    (2 * (n * s.tim.trate) < 8000 → 8000 ≤ 2 * ((n + 1) * s.tim.trate) →
      ∃ t : State, execAll (List.replicate (n + 1) (.tims a)) s = some t ∧
        t = { s with
          tim := ⟨a.setWidth 2, a.setWidth 2, 0, 0, s.tim.trate⟩
          resp := some (1 ||| ((a.setWidth 2 : BitVec 2).setWidth 32 <<< 1)) }))

/-- FSKI, for both directions (43_symbol_timing_fsk.md R176, R180). -/
def Obligations.FskInitialise : Prop :=
  ∀ (a : BitVec 8) (s : State),
    (s.sched.dp ≠ .none → exec (.fski a) s = errorAnswer .busy s) ∧
    (s.sched.dp = .none → a.getLsbD 0 = false →
      exec (.fski a) s = .next { s with
        osc := ((s.osc.set 7 ⟨0, 502⟩).set 8 ⟨0, 845⟩).set 9 ⟨0, 947⟩
        fsk := ⟨.originator, true, 8000, Vector.replicate 27 0, false, 0, s.sreg[9], s.sreg[10]⟩
        tim := ⟨1, 1, 0, 0, 300⟩
        resp := some 0 }) ∧
    (s.sched.dp = .none → a.getLsbD 0 = true →
      exec (.fski a) s = .next { s with
        osc := ((s.osc.set 7 ⟨0, 845⟩).set 8 ⟨0, 502⟩).set 9 ⟨0, 604⟩
        fsk := ⟨.answerer, true, 8000, Vector.replicate 27 0, false, 0, s.sreg[9], s.sreg[10]⟩
        tim := ⟨1, 1, 0, 0, 300⟩
        resp := some 0 })

/-- FSKM: at a bit boundary one bit is pulled from the transmit framer and nothing else is; the sample is the
cosine at the phase reached so far, which no bit boundary resets, and only the increment follows the bit
(43_symbol_timing_fsk.md R175, R177, R181). -/
def Obligations.FskModulateOneSample : Prop :=
  ∀ s : State,
    (s.sched.dp ≠ .none → exec .fskm s = errorAnswer .busy s) ∧
    (s.sched.dp = .none → ∃ (bit : Bool) (inc : BitVec 12) (t : State),
      exec .fskm s = .next t ∧
      bit = (if s.fsk.ftxacc < 8000 then s.fsk.ftxbit else (bqTxGet 1 s).1.getLsbD 0) ∧
      inc = (match s.fsk.fdir, bit with
        | .originator, false => 604
        | .originator, true => 502
        | .answerer, false => 947
        | .answerer, true => 845) ∧
      (s.fsk.ftxacc < 8000 → t = { s with
        osc := s.osc.set 7 ⟨s.osc[7].phase + inc, inc⟩
        fsk := { s.fsk with ftxacc := s.fsk.ftxacc + 300 }
        resp := some ((BitVec.ofInt 16 (asr (cosAt s.osc[7].phase) 1)).setWidth 32) }) ∧
      (8000 ≤ s.fsk.ftxacc → t = { s with
        osc := s.osc.set 7 ⟨s.osc[7].phase + inc, inc⟩
        fsk := { s.fsk with ftxbit := bit, ftxacc := s.fsk.ftxacc - 8000 + 300 }
        bq := (bqTxGet 1 s).2.bq
        txfifo := (bqTxGet 1 s).2.txfifo
        resp := some ((BitVec.ofInt 16 (asr (cosAt s.osc[7].phase) 1)).setWidth 32) }))

/-- FSKD: the delay line, the two correlations over 27 taps against the references, the bit by the larger energy
with a tie counted as mark, the carrier detector on the total, one timing step, and the emitted bit to the receive
framer only under carrier (43_symbol_timing_fsk.md R178, R182). -/
def Obligations.FskDemodulateOneSample : Prop :=
  ∀ (b : BitVec 16) (s : State),
    (s.sched.dp ≠ .none → exec (.fskd b) s = errorAnswer .busy s) ∧
    (s.sched.dp = .none →
      ∃ (line : Vector Int 27) (energy : Fin 12 → Int) (f : Fsk) (m : Tim) (e : Bool) (u t : State),
        line = shiftIn (asr b.toInt 4) s.fsk.fx ∧
        (∀ o : Fin 12, energy o =
          asr (sigma 27 fun k => tap line k * cosAt (s.osc[o].phase - BitVec.ofNat 12 k * s.osc[o].inc)) 15 ^ 2 +
          asr (sigma 27 fun k => tap line k * sinAt (s.osc[o].phase - BitVec.ofNat 12 k * s.osc[o].inc)) 15 ^ 2) ∧
        f = (carrierUpdate (energy 8 + energy 9) { s.fsk with fx := line }).2 ∧
        (e, m) = timStep (if energy 9 ≤ energy 8 then 1 else 0) s.tim ∧
        u = { s with
          osc := (s.osc.set 8 ⟨s.osc[8].phase + s.osc[8].inc, s.osc[8].inc⟩).set 9
            ⟨s.osc[9].phase + s.osc[9].inc, s.osc[9].inc⟩
          fsk := f
          tim := m } ∧
        exec (.fskd b) s = .next t ∧
        t = { (if e = true ∧ f.fcd = true then (bqRxPut 1 (m.tcur.setWidth 16) u).2 else u) with
          resp := some ((BitVec.ofBool e).setWidth 32 ||| (m.tcur.setWidth 32 <<< 1) |||
            ((BitVec.ofBool f.fcd).setWidth 32 <<< 2)) })

/-- Carrier is declared on the CDON*800-th consecutive sample of energy over the floor (the first one with CDON = 0)
and lost on the CDOFF*800-th consecutive sample without; the other kind of sample restarts the count
(43_symbol_timing_fsk.md R179). -/
def Obligations.CarrierDetectTiming : Prop :=
  ∀ (es : List Int) (x : Int) (f : Fsk), f.fcdcnt = 0 →
    (f.fcd = false → (∀ y ∈ es, 32768 < y) →
      (es.length < f.cdon.toNat * 800 → es.foldl (fun g y => (carrierUpdate y g).2) f = { f with fcdcnt := es.length }) ∧
      (es.length < f.cdon.toNat * 800 ∨ es = [] → f.cdon.toNat * 800 ≤ es.length + 1 → 32768 < x →
        carrierUpdate x (es.foldl (fun g y => (carrierUpdate y g).2) f) = (.cd, { f with fcd := true })) ∧
      (es.length < f.cdon.toNat * 800 → x ≤ 32768 →
        carrierUpdate x (es.foldl (fun g y => (carrierUpdate y g).2) f) = (.none, f))) ∧
    (f.fcd = true → (∀ y ∈ es, y ≤ 32768) →
      (es.length < f.cdoff.toNat * 800 → es.foldl (fun g y => (carrierUpdate y g).2) f = { f with fcdcnt := es.length }) ∧
      (es.length < f.cdoff.toNat * 800 ∨ es = [] → f.cdoff.toNat * 800 ≤ es.length + 1 → x ≤ 32768 →
        carrierUpdate x (es.foldl (fun g y => (carrierUpdate y g).2) f) = (.lost, { f with fcd := false })) ∧
      (es.length < f.cdoff.toNat * 800 → 32768 < x →
        carrierUpdate x (es.foldl (fun g y => (carrierUpdate y g).2) f) = (.none, f)))

/-! ### PSK modem -/

/-- PSKI, for both directions (44_psk_modem.md R197, R207). -/
def Obligations.PskInitialise : Prop :=
  ∀ (a : BitVec 8) (s : State),
    (s.sched.dp ≠ .none → exec (.pski a) s = errorAnswer .busy s) ∧
    (s.sched.dp = .none →
      exec (.pski a) s = .next { s with
        osc := (s.osc.set 10 ⟨0, if a.getLsbD 0 then 1229 else 614⟩).set 11 ⟨0, if a.getLsbD 0 then 614 else 1229⟩
        psk := ⟨if a.getLsbD 0 then .answerer else .originator, 8000, Vector.replicate 13 0, Vector.replicate 13 0,
          Vector.replicate 8 0, Vector.replicate 13 0, Vector.replicate 13 0⟩
        neg := ⟨.raw, .raw, 0, 0, 0, 96, false, 0⟩
        scr := ⟨0, 0, 0, 0⟩
        tim := ⟨1, 1, 0, 0, 600⟩
        resp := some 0 })

/-- PSKM: at a symbol boundary the next symbol of the transmit mode (the guard symbol, the scrambled pattern, or,
after the hold-off, the two framed bits of a BQG scrambled) steps the carrier by its quarter turns; the sample is the shaped
cosine. The two bits of a symbol go through the scrambler as two SCRE commands, the more significant first
(44_psk_modem.md R198, R199, R208). -/
def Obligations.PskModulateOneSample : Prop :=
  ∀ s : State,
    (s.sched.dp ≠ .none → exec .pskm s = errorAnswer .busy s) ∧
    (s.sched.dp = .none → ∃ (q e1 e0 g t : State) (x r1 r0 : Word) (d sym : BitVec 2) (ph : BitVec 12)
      (line : Vector Int 13),
      exec (.bqg 2) s = .next q ∧ q.resp = some x ∧
      d = (if s.neg.txm = .data ∧ s.neg.thold = 0 then x.setWidth 2 else 3) ∧
      exec (.scre ((d >>> 1).setWidth 8)) s = .next e1 ∧ e1.resp = some r1 ∧
      exec (.scre (d.setWidth 8)) e1 = .next e0 ∧ e0.resp = some r0 ∧
      sym = (if s.neg.txm = .raw then (0 : BitVec 2) else (r1 <<< 1 ||| r0).setWidth 2) ∧
      (s.neg.txm = .raw → g = s) ∧
      (s.neg.txm = .scrambled → g = { s with scr := e0.scr }) ∧
      (s.neg.txm = .data → 0 < s.neg.thold →
        g = { s with scr := e0.scr, neg := { s.neg with thold := s.neg.thold - 1 } }) ∧
      (s.neg.txm = .data → s.neg.thold = 0 → g = { s with scr := e0.scr, bq := q.bq, txfifo := q.txfifo }) ∧
      ph = (if s.psk.psymacc < 8000 then s.osc[10].phase
        else s.osc[10].phase + 1024 * (match sym with | 0 => 1 | 1 => 0 | 2 => 2 | 3 => 3)) ∧
      line = shiftIn (asr (cosAt ph) 1) s.psk.txd ∧
      exec .pskm s = .next t ∧
      t = { (if s.psk.psymacc < 8000 then s else g) with
        osc := s.osc.set 10 ⟨ph + s.osc[10].inc, s.osc[10].inc⟩
        psk := { s.psk with
          txd := line
          psymacc := (if s.psk.psymacc < 8000 then s.psk.psymacc else s.psk.psymacc - 8000) + 600 }
        resp := some ((BitVec.ofInt 16 (sat16 (asr
          (sigma 13 fun k => tap cfg.txf[s.psk.pdir.txChannel] k * tap line k) 15))).setWidth 32) })

/-- PSKD: the receive filter, the correlation over the last 8 samples (the subtracted halves are the plain
correlation), the quadrant step against the pair 13 samples ago, the symbol through one timing step, and an emitted
symbol to the negotiation sequencer (44_psk_modem.md R205, R206, R209). -/
def Obligations.PskDemodulateOneSample : Prop :=
  ∀ (b : BitVec 16) (s : State),
    (s.sched.dp ≠ .none → exec (.pskd b) s = errorAnswer .busy s) ∧
    (s.sched.dp = .none →
      ∃ (rxd : Vector Int 13) (px : Vector Int 8) (i q x y : Int) (quad sym : BitVec 2) (m : Tim) (e : Bool) (u t : State),
        rxd = shiftIn b.toInt s.psk.rxd ∧
        px = shiftIn (asr (sat16 (asr (sigma 13 fun k => tap cfg.rxf[s.psk.pdir.rxChannel] k * tap rxd k) 15)) 4)
          s.psk.px ∧
        i = asr (sigma 8 fun k => tap px k * cosAt (s.osc[11].phase - BitVec.ofNat 12 k * s.osc[11].inc)) 15 ∧
        q = asr (sigma 8 fun k => tap px k * sinAt (s.osc[11].phase - BitVec.ofNat 12 k * s.osc[11].inc)) 15 ∧
        x = (i * s.psk.zi[12] + q * s.psk.zq[12]) + (i * s.psk.zq[12] - q * s.psk.zi[12]) ∧
        y = (i * s.psk.zi[12] + q * s.psk.zq[12]) - (i * s.psk.zq[12] - q * s.psk.zi[12]) ∧
        (0 ≤ x → 0 ≤ y → quad = 0) ∧ (0 ≤ x → y < 0 → quad = 1) ∧ (x < 0 → y < 0 → quad = 2) ∧
        (x < 0 → 0 ≤ y → quad = 3) ∧
        sym = (match quad with | 0 => 1 | 1 => 0 | 2 => 2 | 3 => 3) ∧
        (e, m) = timStep sym s.tim ∧
        u = { s with
          osc := s.osc.set 11 ⟨s.osc[11].phase + s.osc[11].inc, s.osc[11].inc⟩
          psk := { s.psk with rxd := rxd, px := px, zi := shiftIn i s.psk.zi, zq := shiftIn q s.psk.zq }
          tim := m } ∧
        exec (.pskd b) s = .next t ∧
        t = { (if e = true then (negPut m.tcur u).2 else u) with
          resp := some ((BitVec.ofBool e).setWidth 32 ||| (m.tcur.setWidth 32 <<< 1) |||
            ((if e = true then (negPut m.tcur u).2 else u).neg.ph.id.setWidth 32 <<< 3)) })

/-- FIRT and FIRR run one filter step on their delay line alone; MAPE and MAPD answer the mapper tables, which are
inverse permutations (44_psk_modem.md R204, R210 to R214). -/
def Obligations.FilterAndMapperCommands : Prop :=
  ∀ (a : BitVec 8) (b : BitVec 16) (s : State),
    (s.sched.dp ≠ .none → exec (.firt b) s = errorAnswer .busy s ∧ exec (.firr b) s = errorAnswer .busy s) ∧
    (s.sched.dp = .none →
      exec (.firt b) s = .next { s with
        psk := { s.psk with txd := shiftIn b.toInt s.psk.txd }
        resp := some ((BitVec.ofInt 16 (sat16 (asr (sigma 13 fun k =>
          tap cfg.txf[s.psk.pdir.txChannel] k * tap (shiftIn b.toInt s.psk.txd) k) 15))).setWidth 32) } ∧
      exec (.firr b) s = .next { s with
        psk := { s.psk with rxd := shiftIn b.toInt s.psk.rxd }
        resp := some ((BitVec.ofInt 16 (sat16 (asr (sigma 13 fun k =>
          tap cfg.rxf[s.psk.pdir.rxChannel] k * tap (shiftIn b.toInt s.psk.rxd) k) 15))).setWidth 32) }) ∧
    exec (.mape a) s = .next { s with resp := some (match a.toNat % 4 with | 0 => 1 | 1 => 0 | 2 => 2 | _ => 3) } ∧
    exec (.mapd a) s = .next { s with resp := some (match a.toNat % 4 with | 0 => 1 | 1 => 0 | 2 => 2 | _ => 3) } ∧
    (∀ x : BitVec 2, mapS (mapQ x) = x ∧ mapQ (mapS x) = x)

/-- A received pair that is the earlier pair turned by q quarter turns and scaled classifies as q, and an all-zero
history as 0 (44_psk_modem.md R215, which the spec marks as derived). -/
def Obligations.QuarterTurnsClassify : Prop :=
  (∀ i q g : Int, 0 < g → i ≠ 0 ∨ q ≠ 0 →
    stepBetween (g * i) (g * q) i q = 0 ∧ stepBetween (g * q) (-(g * i)) i q = 1 ∧
    stepBetween (-(g * i)) (-(g * q)) i q = 2 ∧ stepBetween (-(g * q)) (g * i) i q = 3) ∧
  (∀ i q : Int, stepBetween i q 0 0 = 0)

/-- The four filter tables, literally; they are symmetric with the printed sums of absolute values, and the transmit
filter fed with raw modulator samples stays within 21218 and never saturates (44_psk_modem.md R203, properties the
spec marks as derived from the table). -/
def Obligations.FilterTableProperties : Prop :=
  (cfg.txf[(0 : Fin 2)] = #v[212, 0, -2466, -5170, -2434, 5706, 10388, 5706, -2434, -5170, -2466, 0, 212] ∧
    cfg.txf[(1 : Fin 2)] = #v[81, -1244, 941, 4395, -6368, -2998, 10381, -2998, -6368, 4395, 941, -1244, 81] ∧
    cfg.rxf[(0 : Fin 2)] = #v[-139, 0, 0, -2847, -2606, 8208, 16318, 8208, -2606, -2847, 0, 0, -139] ∧
    cfg.rxf[(1 : Fin 2)] = #v[-53, 553, 0, 2419, -6815, -4311, 16301, -4311, -6815, 2419, 0, 553, -53]) ∧
  (∀ (ch : Fin 2) (k : Fin 13), tap cfg.txf[ch] k.val = tap cfg.txf[ch] (12 - k.val) ∧
    tap cfg.rxf[ch] k.val = tap cfg.rxf[ch] (12 - k.val)) ∧
  (sigma 13 (fun k => ((tap cfg.txf[(0 : Fin 2)] k).natAbs : Int)) = 42364 ∧
    sigma 13 (fun k => ((tap cfg.txf[(1 : Fin 2)] k).natAbs : Int)) = 42435 ∧
    sigma 13 (fun k => ((tap cfg.rxf[(0 : Fin 2)] k).natAbs : Int)) = 43918 ∧
    sigma 13 (fun k => ((tap cfg.rxf[(1 : Fin 2)] k).natAbs : Int)) = 44603) ∧
  (∀ (ch : Fin 2) (d : Vector Int 13), Within (-32768) 32767 d →
    (sigma 13 fun k => tap cfg.txf[ch] k * tap d k).natAbs < 2 ^ 31 ∧
    (sigma 13 fun k => tap cfg.rxf[ch] k * tap d k).natAbs < 2 ^ 31) ∧
  (∀ (ch : Fin 2) (d : Vector Int 13), Within (-16384) 16384 d →
    firOut cfg.txf[ch] d = asr (sigma 13 fun k => tap cfg.txf[ch] k * tap d k) 15 ∧
    (firOut cfg.txf[ch] d).natAbs ≤ 21218)

/-! ### Negotiation -/

/-- The RAW phase: 96 guard symbols in a row end it, no fewer do, and only the originator then starts scrambled
output; an unexpected symbol before the floor throws the run away; from the floor on it costs one error. In every
phase PH never decreases and FAILED drops every symbol (46_psk_negotiation.md R242, R244, R248, R252). -/
def Obligations.NegotiationRawRun : Prop :=
  (∀ (n : Nat) (s : State), s.neg = ⟨.raw, .raw, 0, 0, 0, 96, false, 0⟩ → n < 96 →
    (fun u => (negPut 0 u).2)^[n] s = { s with neg := ⟨.raw, .raw, n, n, 0, 96, false, 0⟩ } ∧
    ((negPut 0 ((fun u => (negPut 0 u).2)^[n] s)).1 = .scr ↔ n = 95) ∧
    ((fun u => (negPut 0 u).2)^[96] s = { s with
      neg := ⟨.scrambled, if s.psk.pdir = .originator then .scrambled else .raw, 0, 0, 0, 162, false, 0⟩ })) ∧
  (∀ (sym : BitVec 2) (s : State), s.neg.ph = .raw → sym ≠ 0 →
    (s.neg.ngood < 16 →
      negPut sym s = (.none, { s with neg := { s.neg with nrun := 0, ngood := 0, nerr := 0, nbud := 96 } })) ∧
    (16 ≤ s.neg.ngood → s.neg.nrun + 1 < s.neg.nbud →
      negPut sym s = (.none, { s with neg := { s.neg with nrun := s.neg.nrun + 1, nerr := s.neg.nerr + 1 } }))) ∧
  (∀ (sym : BitVec 2) (s : State), s.neg.ph = .failed → negPut sym s = (.none, s)) ∧
  (∀ (sym : BitVec 2) (s : State), s.neg.ph.id.toNat ≤ (negPut sym s).2.neg.ph.id.toNat)

/-- neg_put, branch by branch (46_psk_negotiation.md R242). In SCRAMBLED and DATA the descrambler takes the two bits of
the symbol, the more significant first, as two SCRD commands would. An expected symbol is 0 in RAW and the descrambled
dibit 3 in SCRAMBLED; an unexpected one before the floor throws the run away; every other one is counted, with the
answerer's early commit at 48 expected symbols. At the end of the budget the run succeeds below 8 errors, else is
extended once, else the negotiation fails. In DATA the dibit goes to the receive framer, in FAILED nothing happens. -/
def Obligations.NegotiationRetriesOnceThenFails : Prop :=
  ∀ (sym : BitVec 2) (s : State), ∃ (d1 d0 : State) (r1 r0 : Word),
    exec (.scrd ((sym >>> 1).setWidth 8)) s.parked = .next d1 ∧ d1.resp = some r1 ∧
    exec (.scrd (sym.setWidth 8)) d1 = .next d0 ∧ d0.resp = some r0 ∧
    (s.neg.ph = .data → ∃ u : State, exec (.bqp 2 ((r1 <<< 1 ||| r0).setWidth 16)) d0 = .next u ∧
      negPut sym s = (.none, { u with sched := s.sched, resp := s.resp })) ∧
    (s.neg.ph = .failed → negPut sym s = (.none, s)) ∧
    (∀ (ok : Bool) (len : Nat) (c : Scr),
      (s.neg.ph = .raw ∧ len = 96 ∧ c = s.scr ∧ (ok = true ↔ sym = 0)) ∨
        (s.neg.ph = .scrambled ∧ len = 162 ∧ c = d0.scr ∧ (ok = true ↔ r1 = 1 ∧ r0 = 1)) →
      (ok = false → s.neg.ngood < 16 →
        negPut sym s = (.none, { s with
          scr := c
          neg := { s.neg with nrun := 0, ngood := 0, nerr := 0, nbud := len } })) ∧
      (ok = true ∨ 16 ≤ s.neg.ngood → ∃ (n : Neg) (good errors : Nat),
        good = (if ok then s.neg.ngood + 1 else s.neg.ngood) ∧ errors = (if ok then s.neg.nerr else s.neg.nerr + 1) ∧
        n = { s.neg with
          nrun := s.neg.nrun + 1
          ngood := good
          nerr := errors
          txm := if s.neg.ph = .scrambled ∧ s.psk.pdir = .answerer ∧ s.neg.txm = .raw ∧ 48 ≤ good then .scrambled
            else s.neg.txm } ∧
        (s.neg.nrun + 1 < s.neg.nbud → negPut sym s = (.none, { s with scr := c, neg := n })) ∧
        (s.neg.nbud ≤ s.neg.nrun + 1 → errors < 8 → s.neg.ph = .raw →
          negPut sym s = (.scr, { s with neg := { n with
            ph := .scrambled
            txm := if s.psk.pdir = .originator then .scrambled else s.neg.txm
            nrun := 0
            ngood := 0
            nerr := 0
            nbud := 162
            nretry := false } })) ∧
        (s.neg.nbud ≤ s.neg.nrun + 1 → errors < 8 → s.neg.ph = .scrambled →
          negPut sym s = (.data, { s with
            scr := c
            neg := { n with
              ph := .data
              txm := .data
              nrun := 0
              ngood := 0
              nerr := 0
              nretry := false
              thold := 240 } })) ∧
        (s.neg.nbud ≤ s.neg.nrun + 1 → 8 ≤ errors → s.neg.nretry = false →
          negPut sym s = (.none, { s with
            scr := c
            neg := { n with nretry := true, nbud := s.neg.nbud + len, nerr := 0 } })) ∧
        (s.neg.nbud ≤ s.neg.nrun + 1 → 8 ≤ errors → s.neg.nretry = true →
          negPut sym s = (.fail, { s with scr := c, neg := { n with ph := .failed } }))))

/-! ### Scrambler -/

/-- SCRI, SCRE and SCRD, with the feedback taps 14 and 17 bits back and the forced inversion after 64 line ones
(45_scrambler.md R227 to R229, R231 to R233). -/
def Obligations.ScramblerCommands : Prop :=
  ∀ (a : BitVec 8) (s : State),
    (s.sched.dp ≠ .none → ∀ i ∈ [Instr.scri, .scre a, .scrd a], exec i s = errorAnswer .busy s) ∧
    (s.sched.dp = .none →
      exec .scri s = .next { s with scr := ⟨0, 0, 0, 0⟩, resp := some 0 } ∧
      (∃ o : Bool,
        o = ((a.getLsbD 0 ^^ (s.scr.sr.getLsbD 13 ^^ s.scr.sr.getLsbD 16)) ^^ decide (s.scr.sones = 64)) ∧
        exec (.scre a) s = .next { s with
          scr := { s.scr with
            sr := (s.scr.sr <<< 1) ||| (BitVec.ofBool o).setWidth 17
            sones := if s.scr.sones = 64 then 0 else if o then s.scr.sones + 1 else 0 }
          resp := some ((BitVec.ofBool o).setWidth 32) }) ∧
      (∃ d : Bool,
        d = ((a.getLsbD 0 ^^ (s.scr.dr.getLsbD 13 ^^ s.scr.dr.getLsbD 16)) ^^ decide (s.scr.dones = 64)) ∧
        exec (.scrd a) s = .next { s with
          scr := { s.scr with
            dr := (s.scr.dr <<< 1) ||| (BitVec.ofBool (a.getLsbD 0)).setWidth 17
            dones := if s.scr.dones = 64 then 0 else if a.getLsbD 0 then s.scr.dones + 1 else 0 }
          resp := some ((BitVec.ofBool d).setWidth 32) }))

/-- The inverse law over bit sequences of every length, the registers equal again afterwards
(45_scrambler.md R230, which the spec marks as derived). -/
def Obligations.ScramblerInverseLaw : Prop :=
  ∀ (bits : List Bool) (c : Scr), c.sr = c.dr → c.sones = c.dones →
    (descrambleAll (scrambleAll bits c).1 c).1 = bits ∧
    (descrambleAll (scrambleAll bits c).1 c).2.dr = (scrambleAll bits c).2.sr ∧
    (descrambleAll (scrambleAll bits c).1 c).2.dones = (scrambleAll bits c).2.sones

/-- Self-synchronisation: from any register and any count, a descrambler that has received 17 line bits, a zero
among them, has the sender's register and count, and from then on every bit is right (45_scrambler.md R230, which the spec marks as derived). -/
def Obligations.DescramblerSynchronises : Prop :=
  ∀ (bits more : List Bool) (c d : Scr), 17 ≤ bits.length →
    (descrambleAll (scrambleAll bits c).1 d).2.dr = (scrambleAll bits c).2.sr ∧
    (false ∈ (scrambleAll bits c).1 →
      (descrambleAll (scrambleAll bits c).1 d).2.dones = (scrambleAll bits c).2.sones ∧
      (descrambleAll (scrambleAll more (scrambleAll bits c).2).1 (descrambleAll (scrambleAll bits c).1 d).2).1 = more)

/-! ### Framing and FIFOs -/

/-- TXCH appends one byte to TXFIFO or fails with FULL at 255; RXCH takes the oldest byte of RXFIFO or answers 0;
FFST answers both counts; FFCL empties both and leaves the cells (47_framing_fifo.md R269 to R272). -/
def Obligations.FifoCommands : Prop :=
  ∀ (b : BitVec 16) (s : State), s.MemoryCanonical →
    (s.txfifo.contents.length = 255 → exec (.txch b) s = errorAnswer .full s) ∧
    (s.txfifo.contents.length ≠ 255 → ∃ t : State, exec (.txch b) s = .next t ∧
      t = { s with txfifo := { s.txfifo with head := s.txfifo.head + 1, cells := t.txfifo.cells }, resp := some 0 } ∧
      t.txfifo.contents = s.txfifo.contents ++ [b.setWidth 8] ∧
      t.txfifo.cells.read s.txfifo.head.toNat = b.setWidth 8 ∧
      (∀ j, j ≠ s.txfifo.head.toNat → t.txfifo.cells.read j = s.txfifo.cells.read j)) ∧
    (s.rxfifo.contents = [] → exec .rxch s = .next { s with resp := some 0 }) ∧
    (∀ (c : Byte) (rest : List Byte), s.rxfifo.contents = c :: rest → ∃ t : State, exec .rxch s = .next t ∧
      t = { s with rxfifo := { s.rxfifo with tail := s.rxfifo.tail + 1 }, resp := some (0x100 ||| c.setWidth 32) } ∧
      t.rxfifo.contents = rest) ∧
    exec .ffst s = .next { s with
      resp := some (BitVec.ofNat 32 (s.rxfifo.contents.length + 256 * s.txfifo.contents.length)) } ∧
    exec .ffcl s = .next { s with
      rxfifo := { s.rxfifo with head := 0, tail := 0 }
      txfifo := { s.txfifo with head := 0, tail := 0 }
      resp := some 0 }

/-- BQI clears the bit queues and leaves the FIFOs; BQP and BQG fail with BUSY, then RANGE (47_framing_fifo.md
R266 to R268), and else answer with a change to their own queue, their own FIFO and, BQP, the events FRAMING and RXOVF
only. -/
def Obligations.BitQueueCommands : Prop :=
  ∀ (a : BitVec 8) (b : BitVec 16) (s : State),
    (s.sched.dp ≠ .none → ∀ i ∈ [Instr.bqi, .bqp a b, .bqg a], exec i s = errorAnswer .busy s) ∧
    (s.sched.dp = .none →
      exec .bqi s = .next { s with bq := ⟨0, 0, 0, 0⟩, resp := some 0 } ∧
      (a.toNat < 1 ∨ 16 < a.toNat → exec (.bqp a b) s = errorAnswer .range s ∧ exec (.bqg a) s = errorAnswer .range s) ∧
      (1 ≤ a.toNat → a.toNat ≤ 16 →
        (∃ (t : State) (m : BitVec 11) (d : Nat), exec (.bqp a b) s = .next t ∧
          t = { s with
            bq := { s.bq with rxb := t.bq.rxb, rxc := t.bq.rxc }
            rxfifo := t.rxfifo
            evt := s.evt ||| (m &&& 0x18)
            resp := some (BitVec.ofNat 32 d) } ∧
          t.rxfifo.tail = s.rxfifo.tail ∧ (s.bq.rxc ≤ 9 → d ≤ 2)) ∧
        (∃ (t : State) (v : Nat), exec (.bqg a) s = .next t ∧
          t = { s with
            bq := { s.bq with txb := t.bq.txb, txc := t.bq.txc }
            txfifo := { s.txfifo with tail := t.txfifo.tail }
            resp := some (BitVec.ofNat 32 v) } ∧
          v < 2 ^ a.toNat)))

/-- One received bit (47_framing_fifo.md R263): mark before a start bit is dropped, bits of a frame are held, the
tenth completes the frame: FRAMING if it is 0, the eight bits in reverse order to RXFIFO, or RXOVF if it is full;
and a group of n bits is the n bits one after the other, the first of them v[n-1], and answers the sum of their answers
(R267). -/
def Obligations.ReceiveFramerBitByBit : Prop :=
  (∀ (b : BitVec 16) (s : State), s.sched.dp = .none → s.MemoryCanonical → s.bq.rxb.toNat < 2 ^ s.bq.rxc →
    (0 < s.bq.rxc → s.bq.rxb.getLsbD (s.bq.rxc - 1) = false) →
    (s.bq.rxc = 0 → b.getLsbD 0 = true → exec (.bqp 1 b) s = .next { s with resp := some 0 }) ∧
    (s.bq.rxc = 0 → b.getLsbD 0 = false →
      exec (.bqp 1 b) s = .next { s with bq := { s.bq with rxc := 1 }, resp := some 0 }) ∧
    (0 < s.bq.rxc → s.bq.rxc < 9 → exec (.bqp 1 b) s = .next { s with
      bq := { s.bq with rxb := (s.bq.rxb <<< 1) ||| (BitVec.ofBool (b.getLsbD 0)).setWidth 32, rxc := s.bq.rxc + 1 }
      resp := some 0 }) ∧
    (s.bq.rxc = 9 → ∃ (c : Byte) (t : State), c = rev8 (s.bq.rxb.setWidth 8) ∧ exec (.bqp 1 b) s = .next t ∧
      (s.rxfifo.contents.length ≠ 255 →
        t = { s with
          bq := { s.bq with rxb := 0, rxc := 0 }
          rxfifo := { s.rxfifo with head := s.rxfifo.head + 1, cells := t.rxfifo.cells }
          evt := if b.getLsbD 0 then s.evt else s.evt ||| 0x8
          resp := some 1 } ∧
        t.rxfifo.contents = s.rxfifo.contents ++ [c] ∧
        (∀ j, j ≠ s.rxfifo.head.toNat → t.rxfifo.cells.read j = s.rxfifo.cells.read j)) ∧
      (s.rxfifo.contents.length = 255 →
        t = { s with
          bq := { s.bq with rxb := 0, rxc := 0 }
          evt := if b.getLsbD 0 then s.evt ||| 0x10 else s.evt ||| 0x18
          resp := some 1 }))) ∧
  (∀ (n : Nat) (v : BitVec 16) (s : State), s.sched.dp = .none → 1 ≤ n → n ≤ 16 → ∃ t u : State,
    exec (.bqp (BitVec.ofNat 8 n) v) s = .next t ∧
    execAll ((List.range n).map fun k => Instr.bqp 1 (v >>> (n - 1 - k))) s = some u ∧ u = { t with resp := u.resp } ∧
    t.resp = some (answers ((List.range n).map fun k => Instr.bqp 1 (v >>> (n - 1 - k))) s).sum)

/-- One transmitted bit (47_framing_fifo.md R264): the oldest held bit; with none held the start bit of the oldest
byte's frame, whose other nine bits are then held; with no byte either, mark. A group of n bits is the n bits one
after the other, the first of them in bit n-1. -/
def Obligations.TransmitFramerBitByBit : Prop :=
  (∀ s : State, s.sched.dp = .none → s.bq.txb.toNat < 2 ^ s.bq.txc → s.bq.txc ≤ 25 →
    (0 < s.bq.txc → exec (.bqg 1) s = .next { s with
      bq := { s.bq with txb := BitVec.ofNat 32 (s.bq.txb.toNat % 2 ^ (s.bq.txc - 1)), txc := s.bq.txc - 1 }
      resp := some ((BitVec.ofBool (s.bq.txb.getLsbD (s.bq.txc - 1))).setWidth 32) }) ∧
    (s.bq.txc = 0 → s.txfifo.contents = [] → exec (.bqg 1) s = .next { s with resp := some 1 }) ∧
    (∀ (c : Byte) (rest : List Byte), s.bq.txc = 0 → s.txfifo.contents = c :: rest →
      exec (.bqg 1) s = .next { s with
        bq := { s.bq with txb := ((rev8 c).setWidth 32 <<< 1) ||| 1, txc := 9 }
        txfifo := { s.txfifo with tail := s.txfifo.tail + 1 }
        resp := some 0 })) ∧
  (∀ (n : Nat) (s : State), s.sched.dp = .none → s.bq.txb.toNat < 2 ^ s.bq.txc → s.bq.txc ≤ 25 → 1 ≤ n → n ≤ 16 →
    ∃ (t u : State) (r : Word),
      exec (.bqg (BitVec.ofNat 8 n)) s = .next t ∧ t.resp = some r ∧
      execAll (List.replicate n (.bqg 1)) s = some u ∧ t = { u with resp := some r } ∧
      (∀ k, k < n → ∃ w : State, execAll (List.replicate (k + 1) (.bqg 1)) s = some w ∧
        w.resp = some ((BitVec.ofBool (r.getLsbD (n - 1 - k))).setWidth 32)))

/-- The frame of every byte goes out and comes back as that byte with no event; with nothing to send every pull is
mark and changes nothing; all-ones input delivers nothing (47_framing_fifo.md R262, and R265, which the spec marks
as derived). -/
def Obligations.FramingRoundTripOfOneByte : Prop :=
  (∀ (c : Byte) (s : State), s.sched.dp = .none → s.MemoryCanonical → s.bq = ⟨0, 0, 0, 0⟩ → s.txfifo.contents = [c] →
    s.rxfifo.contents.length < 255 → ∃ (t u : State) (w : BitVec 16),
      w = ((rev8 c).setWidth 16 <<< 1) ||| 1 ∧
      exec (.bqg 10) s = .next t ∧ t.resp = some (w.setWidth 32) ∧
      exec (.bqp 10 w) t = .next u ∧ u.resp = some 1 ∧ u.rxfifo.contents = s.rxfifo.contents ++ [c] ∧
      u.txfifo.contents = [] ∧ u.evt = s.evt ∧ u.bq = ⟨0, 0, 0, 0⟩) ∧
  (∀ (a : BitVec 8) (s : State), s.sched.dp = .none → 1 ≤ a.toNat → a.toNat ≤ 16 → s.bq = ⟨0, 0, 0, 0⟩ →
    (s.txfifo.contents = [] →
      exec (.bqg a) s = .next { s with resp := some (BitVec.ofNat 32 (2 ^ a.toNat - 1)) }) ∧
    exec (.bqp a 0xFFFF) s = .next { s with resp := some 0 })

/-- Whatever bytes TXFIFO holds, and however the bit stream is cut into groups of 1 to 16 bits, the transmit framer
fed straight into the receive framer delivers exactly those bytes, in order, with no event
(47_framing_fifo.md R265, which the spec marks as derived). -/
def Obligations.FramingLoopbackDeliversTheBytes : Prop :=
  ∀ (groups : List (Fin 16)) (s : State), s.sched.dp = .none → s.MemoryCanonical → s.bq = ⟨0, 0, 0, 0⟩ →
    s.rxfifo.contents = [] → 10 * s.txfifo.contents.length ≤ (groups.map fun n => n.val + 1).sum →
    ∃ t : State, loopback groups s = some t ∧ t.rxfifo.contents = s.txfifo.contents ∧ t.txfifo.contents = [] ∧
      t.evt = s.evt ∧ t.bq = ⟨0, 0, 0, 0⟩
end

