-- ==== Sys2Proof/Laws/Arith.lean ====
section
/-! SUPPORT. Laws/Arith.lean: what the arithmetic of 00_scope.md R15 does. -/

namespace Sys2Proof.Machine

/-- `asr` is the floor of the quotient: the defining inequalities. -/
theorem asr_spec (v : Int) (k : Nat) :
    asr v k * ((2 ^ k : Nat) : Int) ≤ v ∧ v < (asr v k + 1) * ((2 ^ k : Nat) : Int) := by
  have hk : (0 : Int) < ((2 ^ k : Nat) : Int) := by exact_mod_cast Nat.two_pow_pos k
  exact ⟨Int.ediv_mul_le v hk.ne', Int.lt_ediv_add_one_mul_self v hk⟩

/-- A floor quotient stays in a range whose scaled bounds hold of the argument. -/
theorem asr_mem (v lo hi : Int) (k : Nat) (hlo : lo * ((2 ^ k : Nat) : Int) ≤ v)
    (hhi : v < (hi + 1) * ((2 ^ k : Nat) : Int)) : lo ≤ asr v k ∧ asr v k ≤ hi := by
  have hk : (0 : Int) < ((2 ^ k : Nat) : Int) := by exact_mod_cast Nat.two_pow_pos k
  exact ⟨(Int.le_ediv_iff_mul_le hk).2 hlo, Int.lt_add_one_iff.1 ((Int.ediv_lt_iff_lt_mul hk).2 hhi)⟩

/-- `asr(v, 4)` of a 16-bit value is a 12-bit value (R124, R178). -/
theorem asr_four_mem (v : Int) (h : -32768 ≤ v ∧ v ≤ 32767) : -2048 ≤ asr v 4 ∧ asr v 4 ≤ 2047 :=
  asr_mem v _ _ 4 (by norm_num; omega) (by norm_num; omega)

/-- `sat16` answers a 16-bit value. -/
theorem sat16_mem (v : Int) : -32768 ≤ sat16 v ∧ sat16 v ≤ 32767 := by
  unfold sat16; split
  · omega
  · split <;> omega

/-- `sat16` keeps a 16-bit value. -/
theorem sat16_eq_self (v : Int) (h : -32768 ≤ v ∧ v ≤ 32767) : sat16 v = v := by
  unfold sat16; split
  · omega
  · split <;> omega

/-- A sample operand is a 16-bit value. -/
theorem sext16_mem (b : BitVec 16) : -32768 ≤ sext16 b ∧ sext16 b ≤ 32767 := by
  have h1 := BitVec.le_toInt b
  have h2 := BitVec.toInt_lt (x := b)
  unfold sext16
  norm_num at h1 h2
  omega

/-- Reading a pattern back gives the 16-bit value it was made of. -/
theorem toInt_lo16 (v : Int) (h : -32768 ≤ v ∧ v ≤ 32767) : (lo16 v).toInt = v := by
  unfold lo16
  rw [BitVec.toInt_ofInt]
  exact Int.bmod_eq_of_le (by norm_num; omega) (by norm_num; omega)

/-- The pattern of a sample operand is the operand. -/
theorem lo16_sext16 (b : BitVec 16) : lo16 (sext16 b) = b := by
  simp [lo16, sext16]

/-- Reversing twice is nothing. -/
theorem rev8_rev8 (b : BitVec 8) : rev8 (rev8 b) = b := by
  revert b; decide

/-- The absolute value of a sum of products is bounded by the bounds of the factors. -/
theorem sigma_natAbs_le (n m : Nat) (f : Nat → Int) (h : ∀ k, k < n → (f k).natAbs ≤ m) :
    (sigma n f).natAbs ≤ n * m := by
  induction n with
  | zero => simp [sigma]
  | succ n ih =>
    have h1 := ih fun k hk => h k (Nat.lt_succ_of_lt hk)
    have h2 := h n (Nat.lt_succ_self n)
    simp only [sigma]
    rw [Nat.succ_mul]
    omega

/-- A sum depends on its terms only. -/
theorem sigma_congr (n : Nat) (f g : Nat → Int) (h : ∀ k, k < n → f k = g k) : sigma n f = sigma n g := by
  induction n with
  | zero => rfl
  | succ n ih =>
    simp only [sigma]
    rw [ih fun k hk => h k (Nat.lt_succ_of_lt hk), h n (Nat.lt_succ_self n)]

/-- The values a delay line holds after a shift. -/
theorem toList_shiftIn {n : Nat} (x : Int) (d : Vector Int n) : (shiftIn x d).toList = (x :: d.toList).take n := by
  simp [shiftIn]

/-- After a shift the newest value is the one shifted in. -/
theorem tap_shiftIn_zero {n : Nat} (x : Int) (d : Vector Int (n + 1)) : tap (shiftIn x d) 0 = x := by
  simp [tap, toList_shiftIn]

/-- After a shift every other value is its newer neighbour's. -/
theorem tap_shiftIn_succ {n : Nat} (x : Int) (d : Vector Int n) (k : Nat) (hk : k + 1 < n) :
    tap (shiftIn x d) (k + 1) = tap d k := by
  have hk' : k < n := by omega
  simp [tap, toList_shiftIn, List.getD_eq_getElem?_getD, hk, hk']

/-- A shift keeps a range that the new value has. -/
theorem shiftIn_forall {n : Nat} (P : Int → Prop) (x : Int) (d : Vector Int n) (hx : P x)
    (hd : ∀ y ∈ d.toList, P y) : ∀ y ∈ (shiftIn x d).toList, P y := by
  intro y hy
  rw [toList_shiftIn] at hy
  rcases List.mem_cons.1 (List.mem_of_mem_take hy) with rfl | h
  · exact hx
  · exact hd y h

/-- A value read from a delay line is zero or one of its values. -/
theorem tap_forall {n : Nat} (P : Int → Prop) (d : Vector Int n) (k : Nat) (h0 : P 0)
    (hd : ∀ y ∈ d.toList, P y) : P (tap d k) := by
  unfold tap
  rw [List.getD_eq_getElem?_getD]
  cases h : d.toList[k]? with
  | none => exact h0
  | some y => exact hd y (List.mem_of_getElem? h)

end Sys2Proof.Machine
end

