-- ==== Sys2Proof/Laws/State.lean ====
section
/-! SUPPORT. Laws/State.lean: one lemma per field per update, so that no later proof unfolds a record
update. -/

namespace Sys2Proof.Machine

/-! ### event -/

@[simp] theorem event_osc (e : Event) (s : State) : (event e s).osc = s.osc := rfl
@[simp] theorem event_sreg (e : Event) (s : State) : (event e s).sreg = s.sreg := rfl
@[simp] theorem event_ctl (e : Event) (s : State) : (event e s).ctl = s.ctl := rfl
@[simp] theorem event_evt (e : Event) (s : State) : (event e s).evt = s.evt ||| e.mask := rfl
@[simp] theorem event_sched (e : Event) (s : State) : (event e s).sched = s.sched := rfl
@[simp] theorem event_dial (e : Event) (s : State) : (event e s).dial = s.dial := rfl
@[simp] theorem event_dtrem (e : Event) (s : State) : (event e s).dtrem = s.dtrem := rfl
@[simp] theorem event_det (e : Event) (s : State) : (event e s).det = s.det := rfl
@[simp] theorem event_tim (e : Event) (s : State) : (event e s).tim = s.tim := rfl
@[simp] theorem event_fsk (e : Event) (s : State) : (event e s).fsk = s.fsk := rfl
@[simp] theorem event_psk (e : Event) (s : State) : (event e s).psk = s.psk := rfl
@[simp] theorem event_neg (e : Event) (s : State) : (event e s).neg = s.neg := rfl
@[simp] theorem event_scr (e : Event) (s : State) : (event e s).scr = s.scr := rfl
@[simp] theorem event_bq (e : Event) (s : State) : (event e s).bq = s.bq := rfl
@[simp] theorem event_rxfifo (e : Event) (s : State) : (event e s).rxfifo = s.rxfifo := rfl
@[simp] theorem event_txfifo (e : Event) (s : State) : (event e s).txfifo = s.txfifo := rfl
@[simp] theorem event_inbuf (e : Event) (s : State) : (event e s).inbuf = s.inbuf := rfl
@[simp] theorem event_outbuf (e : Event) (s : State) : (event e s).outbuf = s.outbuf := rfl
@[simp] theorem event_port (e : Event) (s : State) : (event e s).port = s.port := rfl
@[simp] theorem event_resp (e : Event) (s : State) : (event e s).resp = s.resp := rfl

/-! ### acknowledge -/

@[simp] theorem acknowledge_osc (s : State) : (acknowledge s).osc = s.osc := rfl
@[simp] theorem acknowledge_sreg (s : State) : (acknowledge s).sreg = s.sreg := rfl
@[simp] theorem acknowledge_ctl (s : State) : (acknowledge s).ctl = s.ctl := rfl
@[simp] theorem acknowledge_evt (s : State) : (acknowledge s).evt = 0 := rfl
@[simp] theorem acknowledge_sched (s : State) : (acknowledge s).sched = s.sched := rfl
@[simp] theorem acknowledge_dial (s : State) : (acknowledge s).dial = s.dial := rfl
@[simp] theorem acknowledge_dtrem (s : State) : (acknowledge s).dtrem = s.dtrem := rfl
@[simp] theorem acknowledge_det (s : State) : (acknowledge s).det = s.det := rfl
@[simp] theorem acknowledge_tim (s : State) : (acknowledge s).tim = s.tim := rfl
@[simp] theorem acknowledge_fsk (s : State) : (acknowledge s).fsk = s.fsk := rfl
@[simp] theorem acknowledge_psk (s : State) : (acknowledge s).psk = s.psk := rfl
@[simp] theorem acknowledge_neg (s : State) : (acknowledge s).neg = s.neg := rfl
@[simp] theorem acknowledge_scr (s : State) : (acknowledge s).scr = s.scr := rfl
@[simp] theorem acknowledge_bq (s : State) : (acknowledge s).bq = s.bq := rfl
@[simp] theorem acknowledge_rxfifo (s : State) : (acknowledge s).rxfifo = s.rxfifo := rfl
@[simp] theorem acknowledge_txfifo (s : State) : (acknowledge s).txfifo = s.txfifo := rfl
@[simp] theorem acknowledge_inbuf (s : State) : (acknowledge s).inbuf = s.inbuf := rfl
@[simp] theorem acknowledge_outbuf (s : State) : (acknowledge s).outbuf = s.outbuf := rfl
@[simp] theorem acknowledge_port (s : State) : (acknowledge s).port = s.port := rfl
@[simp] theorem acknowledge_resp (s : State) : (acknowledge s).resp = s.resp := rfl

/-! ### setIn -/

@[simp] theorem setIn_osc (i : Nat) (b : BitVec 16) (s : State) : (setIn i b s).osc = s.osc := rfl
@[simp] theorem setIn_sreg (i : Nat) (b : BitVec 16) (s : State) : (setIn i b s).sreg = s.sreg := rfl
@[simp] theorem setIn_ctl (i : Nat) (b : BitVec 16) (s : State) : (setIn i b s).ctl = s.ctl := rfl
@[simp] theorem setIn_evt (i : Nat) (b : BitVec 16) (s : State) : (setIn i b s).evt = s.evt := rfl
@[simp] theorem setIn_sched (i : Nat) (b : BitVec 16) (s : State) : (setIn i b s).sched = s.sched := rfl
@[simp] theorem setIn_dial (i : Nat) (b : BitVec 16) (s : State) : (setIn i b s).dial = s.dial := rfl
@[simp] theorem setIn_dtrem (i : Nat) (b : BitVec 16) (s : State) : (setIn i b s).dtrem = s.dtrem := rfl
@[simp] theorem setIn_det (i : Nat) (b : BitVec 16) (s : State) : (setIn i b s).det = s.det := rfl
@[simp] theorem setIn_tim (i : Nat) (b : BitVec 16) (s : State) : (setIn i b s).tim = s.tim := rfl
@[simp] theorem setIn_fsk (i : Nat) (b : BitVec 16) (s : State) : (setIn i b s).fsk = s.fsk := rfl
@[simp] theorem setIn_psk (i : Nat) (b : BitVec 16) (s : State) : (setIn i b s).psk = s.psk := rfl
@[simp] theorem setIn_neg (i : Nat) (b : BitVec 16) (s : State) : (setIn i b s).neg = s.neg := rfl
@[simp] theorem setIn_scr (i : Nat) (b : BitVec 16) (s : State) : (setIn i b s).scr = s.scr := rfl
@[simp] theorem setIn_bq (i : Nat) (b : BitVec 16) (s : State) : (setIn i b s).bq = s.bq := rfl
@[simp] theorem setIn_rxfifo (i : Nat) (b : BitVec 16) (s : State) : (setIn i b s).rxfifo = s.rxfifo := rfl
@[simp] theorem setIn_txfifo (i : Nat) (b : BitVec 16) (s : State) : (setIn i b s).txfifo = s.txfifo := rfl
@[simp] theorem setIn_inbuf (i : Nat) (b : BitVec 16) (s : State) : (setIn i b s).inbuf = s.inbuf.write i b := rfl
@[simp] theorem setIn_outbuf (i : Nat) (b : BitVec 16) (s : State) : (setIn i b s).outbuf = s.outbuf := rfl
@[simp] theorem setIn_port (i : Nat) (b : BitVec 16) (s : State) : (setIn i b s).port = s.port := rfl
@[simp] theorem setIn_resp (i : Nat) (b : BitVec 16) (s : State) : (setIn i b s).resp = s.resp := rfl

/-! ### setOut -/

@[simp] theorem setOut_osc (i : Nat) (y : Int) (s : State) : (setOut i y s).osc = s.osc := rfl
@[simp] theorem setOut_sreg (i : Nat) (y : Int) (s : State) : (setOut i y s).sreg = s.sreg := rfl
@[simp] theorem setOut_ctl (i : Nat) (y : Int) (s : State) : (setOut i y s).ctl = s.ctl := rfl
@[simp] theorem setOut_evt (i : Nat) (y : Int) (s : State) : (setOut i y s).evt = s.evt := rfl
@[simp] theorem setOut_sched (i : Nat) (y : Int) (s : State) : (setOut i y s).sched = s.sched := rfl
@[simp] theorem setOut_dial (i : Nat) (y : Int) (s : State) : (setOut i y s).dial = s.dial := rfl
@[simp] theorem setOut_dtrem (i : Nat) (y : Int) (s : State) : (setOut i y s).dtrem = s.dtrem := rfl
@[simp] theorem setOut_det (i : Nat) (y : Int) (s : State) : (setOut i y s).det = s.det := rfl
@[simp] theorem setOut_tim (i : Nat) (y : Int) (s : State) : (setOut i y s).tim = s.tim := rfl
@[simp] theorem setOut_fsk (i : Nat) (y : Int) (s : State) : (setOut i y s).fsk = s.fsk := rfl
@[simp] theorem setOut_psk (i : Nat) (y : Int) (s : State) : (setOut i y s).psk = s.psk := rfl
@[simp] theorem setOut_neg (i : Nat) (y : Int) (s : State) : (setOut i y s).neg = s.neg := rfl
@[simp] theorem setOut_scr (i : Nat) (y : Int) (s : State) : (setOut i y s).scr = s.scr := rfl
@[simp] theorem setOut_bq (i : Nat) (y : Int) (s : State) : (setOut i y s).bq = s.bq := rfl
@[simp] theorem setOut_rxfifo (i : Nat) (y : Int) (s : State) : (setOut i y s).rxfifo = s.rxfifo := rfl
@[simp] theorem setOut_txfifo (i : Nat) (y : Int) (s : State) : (setOut i y s).txfifo = s.txfifo := rfl
@[simp] theorem setOut_inbuf (i : Nat) (y : Int) (s : State) : (setOut i y s).inbuf = s.inbuf := rfl
@[simp] theorem setOut_outbuf (i : Nat) (y : Int) (s : State) : (setOut i y s).outbuf = s.outbuf.write i (lo16 y) := rfl
@[simp] theorem setOut_port (i : Nat) (y : Int) (s : State) : (setOut i y s).port = s.port := rfl
@[simp] theorem setOut_resp (i : Nat) (y : Int) (s : State) : (setOut i y s).resp = s.resp := rfl

/-! ### setOsc -/

@[simp] theorem setOsc_osc (i : Fin 12) (o : Osc) (s : State) : (setOsc i o s).osc = s.osc.set i.val o i.isLt := rfl
@[simp] theorem setOsc_sreg (i : Fin 12) (o : Osc) (s : State) : (setOsc i o s).sreg = s.sreg := rfl
@[simp] theorem setOsc_ctl (i : Fin 12) (o : Osc) (s : State) : (setOsc i o s).ctl = s.ctl := rfl
@[simp] theorem setOsc_evt (i : Fin 12) (o : Osc) (s : State) : (setOsc i o s).evt = s.evt := rfl
@[simp] theorem setOsc_sched (i : Fin 12) (o : Osc) (s : State) : (setOsc i o s).sched = s.sched := rfl
@[simp] theorem setOsc_dial (i : Fin 12) (o : Osc) (s : State) : (setOsc i o s).dial = s.dial := rfl
@[simp] theorem setOsc_dtrem (i : Fin 12) (o : Osc) (s : State) : (setOsc i o s).dtrem = s.dtrem := rfl
@[simp] theorem setOsc_det (i : Fin 12) (o : Osc) (s : State) : (setOsc i o s).det = s.det := rfl
@[simp] theorem setOsc_tim (i : Fin 12) (o : Osc) (s : State) : (setOsc i o s).tim = s.tim := rfl
@[simp] theorem setOsc_fsk (i : Fin 12) (o : Osc) (s : State) : (setOsc i o s).fsk = s.fsk := rfl
@[simp] theorem setOsc_psk (i : Fin 12) (o : Osc) (s : State) : (setOsc i o s).psk = s.psk := rfl
@[simp] theorem setOsc_neg (i : Fin 12) (o : Osc) (s : State) : (setOsc i o s).neg = s.neg := rfl
@[simp] theorem setOsc_scr (i : Fin 12) (o : Osc) (s : State) : (setOsc i o s).scr = s.scr := rfl
@[simp] theorem setOsc_bq (i : Fin 12) (o : Osc) (s : State) : (setOsc i o s).bq = s.bq := rfl
@[simp] theorem setOsc_rxfifo (i : Fin 12) (o : Osc) (s : State) : (setOsc i o s).rxfifo = s.rxfifo := rfl
@[simp] theorem setOsc_txfifo (i : Fin 12) (o : Osc) (s : State) : (setOsc i o s).txfifo = s.txfifo := rfl
@[simp] theorem setOsc_inbuf (i : Fin 12) (o : Osc) (s : State) : (setOsc i o s).inbuf = s.inbuf := rfl
@[simp] theorem setOsc_outbuf (i : Fin 12) (o : Osc) (s : State) : (setOsc i o s).outbuf = s.outbuf := rfl
@[simp] theorem setOsc_port (i : Fin 12) (o : Osc) (s : State) : (setOsc i o s).port = s.port := rfl
@[simp] theorem setOsc_resp (i : Fin 12) (o : Osc) (s : State) : (setOsc i o s).resp = s.resp := rfl

/-! ### setPhase -/

@[simp] theorem setPhase_osc (i : Fin 12) (p : BitVec 12) (s : State) : (setPhase i p s).osc = s.osc.set i.val ⟨p, s.osc[i].inc⟩ i.isLt := rfl
@[simp] theorem setPhase_sreg (i : Fin 12) (p : BitVec 12) (s : State) : (setPhase i p s).sreg = s.sreg := rfl
@[simp] theorem setPhase_ctl (i : Fin 12) (p : BitVec 12) (s : State) : (setPhase i p s).ctl = s.ctl := rfl
@[simp] theorem setPhase_evt (i : Fin 12) (p : BitVec 12) (s : State) : (setPhase i p s).evt = s.evt := rfl
@[simp] theorem setPhase_sched (i : Fin 12) (p : BitVec 12) (s : State) : (setPhase i p s).sched = s.sched := rfl
@[simp] theorem setPhase_dial (i : Fin 12) (p : BitVec 12) (s : State) : (setPhase i p s).dial = s.dial := rfl
@[simp] theorem setPhase_dtrem (i : Fin 12) (p : BitVec 12) (s : State) : (setPhase i p s).dtrem = s.dtrem := rfl
@[simp] theorem setPhase_det (i : Fin 12) (p : BitVec 12) (s : State) : (setPhase i p s).det = s.det := rfl
@[simp] theorem setPhase_tim (i : Fin 12) (p : BitVec 12) (s : State) : (setPhase i p s).tim = s.tim := rfl
@[simp] theorem setPhase_fsk (i : Fin 12) (p : BitVec 12) (s : State) : (setPhase i p s).fsk = s.fsk := rfl
@[simp] theorem setPhase_psk (i : Fin 12) (p : BitVec 12) (s : State) : (setPhase i p s).psk = s.psk := rfl
@[simp] theorem setPhase_neg (i : Fin 12) (p : BitVec 12) (s : State) : (setPhase i p s).neg = s.neg := rfl
@[simp] theorem setPhase_scr (i : Fin 12) (p : BitVec 12) (s : State) : (setPhase i p s).scr = s.scr := rfl
@[simp] theorem setPhase_bq (i : Fin 12) (p : BitVec 12) (s : State) : (setPhase i p s).bq = s.bq := rfl
@[simp] theorem setPhase_rxfifo (i : Fin 12) (p : BitVec 12) (s : State) : (setPhase i p s).rxfifo = s.rxfifo := rfl
@[simp] theorem setPhase_txfifo (i : Fin 12) (p : BitVec 12) (s : State) : (setPhase i p s).txfifo = s.txfifo := rfl
@[simp] theorem setPhase_inbuf (i : Fin 12) (p : BitVec 12) (s : State) : (setPhase i p s).inbuf = s.inbuf := rfl
@[simp] theorem setPhase_outbuf (i : Fin 12) (p : BitVec 12) (s : State) : (setPhase i p s).outbuf = s.outbuf := rfl
@[simp] theorem setPhase_port (i : Fin 12) (p : BitVec 12) (s : State) : (setPhase i p s).port = s.port := rfl
@[simp] theorem setPhase_resp (i : Fin 12) (p : BitVec 12) (s : State) : (setPhase i p s).resp = s.resp := rfl

/-! ### setInc -/

@[simp] theorem setInc_osc (i : Fin 12) (c : BitVec 12) (s : State) : (setInc i c s).osc = s.osc.set i.val ⟨s.osc[i].phase, c⟩ i.isLt := rfl
@[simp] theorem setInc_sreg (i : Fin 12) (c : BitVec 12) (s : State) : (setInc i c s).sreg = s.sreg := rfl
@[simp] theorem setInc_ctl (i : Fin 12) (c : BitVec 12) (s : State) : (setInc i c s).ctl = s.ctl := rfl
@[simp] theorem setInc_evt (i : Fin 12) (c : BitVec 12) (s : State) : (setInc i c s).evt = s.evt := rfl
@[simp] theorem setInc_sched (i : Fin 12) (c : BitVec 12) (s : State) : (setInc i c s).sched = s.sched := rfl
@[simp] theorem setInc_dial (i : Fin 12) (c : BitVec 12) (s : State) : (setInc i c s).dial = s.dial := rfl
@[simp] theorem setInc_dtrem (i : Fin 12) (c : BitVec 12) (s : State) : (setInc i c s).dtrem = s.dtrem := rfl
@[simp] theorem setInc_det (i : Fin 12) (c : BitVec 12) (s : State) : (setInc i c s).det = s.det := rfl
@[simp] theorem setInc_tim (i : Fin 12) (c : BitVec 12) (s : State) : (setInc i c s).tim = s.tim := rfl
@[simp] theorem setInc_fsk (i : Fin 12) (c : BitVec 12) (s : State) : (setInc i c s).fsk = s.fsk := rfl
@[simp] theorem setInc_psk (i : Fin 12) (c : BitVec 12) (s : State) : (setInc i c s).psk = s.psk := rfl
@[simp] theorem setInc_neg (i : Fin 12) (c : BitVec 12) (s : State) : (setInc i c s).neg = s.neg := rfl
@[simp] theorem setInc_scr (i : Fin 12) (c : BitVec 12) (s : State) : (setInc i c s).scr = s.scr := rfl
@[simp] theorem setInc_bq (i : Fin 12) (c : BitVec 12) (s : State) : (setInc i c s).bq = s.bq := rfl
@[simp] theorem setInc_rxfifo (i : Fin 12) (c : BitVec 12) (s : State) : (setInc i c s).rxfifo = s.rxfifo := rfl
@[simp] theorem setInc_txfifo (i : Fin 12) (c : BitVec 12) (s : State) : (setInc i c s).txfifo = s.txfifo := rfl
@[simp] theorem setInc_inbuf (i : Fin 12) (c : BitVec 12) (s : State) : (setInc i c s).inbuf = s.inbuf := rfl
@[simp] theorem setInc_outbuf (i : Fin 12) (c : BitVec 12) (s : State) : (setInc i c s).outbuf = s.outbuf := rfl
@[simp] theorem setInc_port (i : Fin 12) (c : BitVec 12) (s : State) : (setInc i c s).port = s.port := rfl
@[simp] theorem setInc_resp (i : Fin 12) (c : BitVec 12) (s : State) : (setInc i c s).resp = s.resp := rfl

/-! ### oscAdv -/

@[simp] theorem oscAdv_osc (i : Fin 12) (s : State) : (oscAdv i s).osc = s.osc.set i.val ⟨s.osc[i].phase + s.osc[i].inc, s.osc[i].inc⟩ i.isLt := rfl
@[simp] theorem oscAdv_sreg (i : Fin 12) (s : State) : (oscAdv i s).sreg = s.sreg := rfl
@[simp] theorem oscAdv_ctl (i : Fin 12) (s : State) : (oscAdv i s).ctl = s.ctl := rfl
@[simp] theorem oscAdv_evt (i : Fin 12) (s : State) : (oscAdv i s).evt = s.evt := rfl
@[simp] theorem oscAdv_sched (i : Fin 12) (s : State) : (oscAdv i s).sched = s.sched := rfl
@[simp] theorem oscAdv_dial (i : Fin 12) (s : State) : (oscAdv i s).dial = s.dial := rfl
@[simp] theorem oscAdv_dtrem (i : Fin 12) (s : State) : (oscAdv i s).dtrem = s.dtrem := rfl
@[simp] theorem oscAdv_det (i : Fin 12) (s : State) : (oscAdv i s).det = s.det := rfl
@[simp] theorem oscAdv_tim (i : Fin 12) (s : State) : (oscAdv i s).tim = s.tim := rfl
@[simp] theorem oscAdv_fsk (i : Fin 12) (s : State) : (oscAdv i s).fsk = s.fsk := rfl
@[simp] theorem oscAdv_psk (i : Fin 12) (s : State) : (oscAdv i s).psk = s.psk := rfl
@[simp] theorem oscAdv_neg (i : Fin 12) (s : State) : (oscAdv i s).neg = s.neg := rfl
@[simp] theorem oscAdv_scr (i : Fin 12) (s : State) : (oscAdv i s).scr = s.scr := rfl
@[simp] theorem oscAdv_bq (i : Fin 12) (s : State) : (oscAdv i s).bq = s.bq := rfl
@[simp] theorem oscAdv_rxfifo (i : Fin 12) (s : State) : (oscAdv i s).rxfifo = s.rxfifo := rfl
@[simp] theorem oscAdv_txfifo (i : Fin 12) (s : State) : (oscAdv i s).txfifo = s.txfifo := rfl
@[simp] theorem oscAdv_inbuf (i : Fin 12) (s : State) : (oscAdv i s).inbuf = s.inbuf := rfl
@[simp] theorem oscAdv_outbuf (i : Fin 12) (s : State) : (oscAdv i s).outbuf = s.outbuf := rfl
@[simp] theorem oscAdv_port (i : Fin 12) (s : State) : (oscAdv i s).port = s.port := rfl
@[simp] theorem oscAdv_resp (i : Fin 12) (s : State) : (oscAdv i s).resp = s.resp := rfl

/-! ### request -/

@[simp] theorem request_osc (x : Target) (s : State) : (request x s).osc = s.osc := rfl
@[simp] theorem request_sreg (x : Target) (s : State) : (request x s).sreg = s.sreg := rfl
@[simp] theorem request_ctl (x : Target) (s : State) : (request x s).ctl = s.ctl := rfl
@[simp] theorem request_evt (x : Target) (s : State) : (request x s).evt = s.evt := rfl
@[simp] theorem request_sched (x : Target) (s : State) : (request x s).sched = { s.sched with next := x, pend := true } := rfl
@[simp] theorem request_dial (x : Target) (s : State) : (request x s).dial = s.dial := rfl
@[simp] theorem request_dtrem (x : Target) (s : State) : (request x s).dtrem = s.dtrem := rfl
@[simp] theorem request_det (x : Target) (s : State) : (request x s).det = s.det := rfl
@[simp] theorem request_tim (x : Target) (s : State) : (request x s).tim = s.tim := rfl
@[simp] theorem request_fsk (x : Target) (s : State) : (request x s).fsk = s.fsk := rfl
@[simp] theorem request_psk (x : Target) (s : State) : (request x s).psk = s.psk := rfl
@[simp] theorem request_neg (x : Target) (s : State) : (request x s).neg = s.neg := rfl
@[simp] theorem request_scr (x : Target) (s : State) : (request x s).scr = s.scr := rfl
@[simp] theorem request_bq (x : Target) (s : State) : (request x s).bq = s.bq := rfl
@[simp] theorem request_rxfifo (x : Target) (s : State) : (request x s).rxfifo = s.rxfifo := rfl
@[simp] theorem request_txfifo (x : Target) (s : State) : (request x s).txfifo = s.txfifo := rfl
@[simp] theorem request_inbuf (x : Target) (s : State) : (request x s).inbuf = s.inbuf := rfl
@[simp] theorem request_outbuf (x : Target) (s : State) : (request x s).outbuf = s.outbuf := rfl
@[simp] theorem request_port (x : Target) (s : State) : (request x s).port = s.port := rfl
@[simp] theorem request_resp (x : Target) (s : State) : (request x s).resp = s.resp := rfl

/-! ### release -/

@[simp] theorem release_osc (s : State) : (release s).osc = s.osc := rfl
@[simp] theorem release_sreg (s : State) : (release s).sreg = s.sreg := rfl
@[simp] theorem release_ctl (s : State) : (release s).ctl = s.ctl := rfl
@[simp] theorem release_evt (s : State) : (release s).evt = s.evt := rfl
@[simp] theorem release_sched (s : State) : (release s).sched = { s.sched with dp := .none, offhook := false, connect := false } := rfl
@[simp] theorem release_dial (s : State) : (release s).dial = s.dial := rfl
@[simp] theorem release_dtrem (s : State) : (release s).dtrem = s.dtrem := rfl
@[simp] theorem release_det (s : State) : (release s).det = s.det := rfl
@[simp] theorem release_tim (s : State) : (release s).tim = s.tim := rfl
@[simp] theorem release_fsk (s : State) : (release s).fsk = s.fsk := rfl
@[simp] theorem release_psk (s : State) : (release s).psk = s.psk := rfl
@[simp] theorem release_neg (s : State) : (release s).neg = s.neg := rfl
@[simp] theorem release_scr (s : State) : (release s).scr = s.scr := rfl
@[simp] theorem release_bq (s : State) : (release s).bq = s.bq := rfl
@[simp] theorem release_rxfifo (s : State) : (release s).rxfifo = s.rxfifo := rfl
@[simp] theorem release_txfifo (s : State) : (release s).txfifo = s.txfifo := rfl
@[simp] theorem release_inbuf (s : State) : (release s).inbuf = s.inbuf := rfl
@[simp] theorem release_outbuf (s : State) : (release s).outbuf = s.outbuf := rfl
@[simp] theorem release_port (s : State) : (release s).port = s.port := rfl
@[simp] theorem release_resp (s : State) : (release s).resp = s.resp := rfl

/-! ### setConnect -/

@[simp] theorem setConnect_osc (v : Bool) (s : State) : (setConnect v s).osc = s.osc := rfl
@[simp] theorem setConnect_sreg (v : Bool) (s : State) : (setConnect v s).sreg = s.sreg := rfl
@[simp] theorem setConnect_ctl (v : Bool) (s : State) : (setConnect v s).ctl = s.ctl := rfl
@[simp] theorem setConnect_evt (v : Bool) (s : State) : (setConnect v s).evt = s.evt := rfl
@[simp] theorem setConnect_sched (v : Bool) (s : State) : (setConnect v s).sched = { s.sched with connect := v } := rfl
@[simp] theorem setConnect_dial (v : Bool) (s : State) : (setConnect v s).dial = s.dial := rfl
@[simp] theorem setConnect_dtrem (v : Bool) (s : State) : (setConnect v s).dtrem = s.dtrem := rfl
@[simp] theorem setConnect_det (v : Bool) (s : State) : (setConnect v s).det = s.det := rfl
@[simp] theorem setConnect_tim (v : Bool) (s : State) : (setConnect v s).tim = s.tim := rfl
@[simp] theorem setConnect_fsk (v : Bool) (s : State) : (setConnect v s).fsk = s.fsk := rfl
@[simp] theorem setConnect_psk (v : Bool) (s : State) : (setConnect v s).psk = s.psk := rfl
@[simp] theorem setConnect_neg (v : Bool) (s : State) : (setConnect v s).neg = s.neg := rfl
@[simp] theorem setConnect_scr (v : Bool) (s : State) : (setConnect v s).scr = s.scr := rfl
@[simp] theorem setConnect_bq (v : Bool) (s : State) : (setConnect v s).bq = s.bq := rfl
@[simp] theorem setConnect_rxfifo (v : Bool) (s : State) : (setConnect v s).rxfifo = s.rxfifo := rfl
@[simp] theorem setConnect_txfifo (v : Bool) (s : State) : (setConnect v s).txfifo = s.txfifo := rfl
@[simp] theorem setConnect_inbuf (v : Bool) (s : State) : (setConnect v s).inbuf = s.inbuf := rfl
@[simp] theorem setConnect_outbuf (v : Bool) (s : State) : (setConnect v s).outbuf = s.outbuf := rfl
@[simp] theorem setConnect_port (v : Bool) (s : State) : (setConnect v s).port = s.port := rfl
@[simp] theorem setConnect_resp (v : Bool) (s : State) : (setConnect v s).resp = s.resp := rfl

/-! ### bqInit -/

@[simp] theorem bqInit_osc (s : State) : (bqInit s).osc = s.osc := rfl
@[simp] theorem bqInit_sreg (s : State) : (bqInit s).sreg = s.sreg := rfl
@[simp] theorem bqInit_ctl (s : State) : (bqInit s).ctl = s.ctl := rfl
@[simp] theorem bqInit_evt (s : State) : (bqInit s).evt = s.evt := rfl
@[simp] theorem bqInit_sched (s : State) : (bqInit s).sched = s.sched := rfl
@[simp] theorem bqInit_dial (s : State) : (bqInit s).dial = s.dial := rfl
@[simp] theorem bqInit_dtrem (s : State) : (bqInit s).dtrem = s.dtrem := rfl
@[simp] theorem bqInit_det (s : State) : (bqInit s).det = s.det := rfl
@[simp] theorem bqInit_tim (s : State) : (bqInit s).tim = s.tim := rfl
@[simp] theorem bqInit_fsk (s : State) : (bqInit s).fsk = s.fsk := rfl
@[simp] theorem bqInit_psk (s : State) : (bqInit s).psk = s.psk := rfl
@[simp] theorem bqInit_neg (s : State) : (bqInit s).neg = s.neg := rfl
@[simp] theorem bqInit_scr (s : State) : (bqInit s).scr = s.scr := rfl
@[simp] theorem bqInit_bq (s : State) : (bqInit s).bq = ⟨0, 0, 0, 0⟩ := rfl
@[simp] theorem bqInit_rxfifo (s : State) : (bqInit s).rxfifo = s.rxfifo := rfl
@[simp] theorem bqInit_txfifo (s : State) : (bqInit s).txfifo = s.txfifo := rfl
@[simp] theorem bqInit_inbuf (s : State) : (bqInit s).inbuf = s.inbuf := rfl
@[simp] theorem bqInit_outbuf (s : State) : (bqInit s).outbuf = s.outbuf := rfl
@[simp] theorem bqInit_port (s : State) : (bqInit s).port = s.port := rfl
@[simp] theorem bqInit_resp (s : State) : (bqInit s).resp = s.resp := rfl

/-! ### lineTimeout -/

@[simp] theorem lineTimeout_osc (s : State) : (lineTimeout s).osc = s.osc := rfl
@[simp] theorem lineTimeout_sreg (s : State) : (lineTimeout s).sreg = s.sreg := rfl
@[simp] theorem lineTimeout_ctl (s : State) : (lineTimeout s).ctl = s.ctl := rfl
@[simp] theorem lineTimeout_evt (s : State) : (lineTimeout s).evt = s.evt ||| Event.timeout.mask := rfl
@[simp] theorem lineTimeout_sched (s : State) : (lineTimeout s).sched = { s.sched with next := .dp .none, pend := true } := rfl
@[simp] theorem lineTimeout_dial (s : State) : (lineTimeout s).dial = s.dial := rfl
@[simp] theorem lineTimeout_dtrem (s : State) : (lineTimeout s).dtrem = s.dtrem := rfl
@[simp] theorem lineTimeout_det (s : State) : (lineTimeout s).det = s.det := rfl
@[simp] theorem lineTimeout_tim (s : State) : (lineTimeout s).tim = s.tim := rfl
@[simp] theorem lineTimeout_fsk (s : State) : (lineTimeout s).fsk = s.fsk := rfl
@[simp] theorem lineTimeout_psk (s : State) : (lineTimeout s).psk = s.psk := rfl
@[simp] theorem lineTimeout_neg (s : State) : (lineTimeout s).neg = s.neg := rfl
@[simp] theorem lineTimeout_scr (s : State) : (lineTimeout s).scr = s.scr := rfl
@[simp] theorem lineTimeout_bq (s : State) : (lineTimeout s).bq = s.bq := rfl
@[simp] theorem lineTimeout_rxfifo (s : State) : (lineTimeout s).rxfifo = s.rxfifo := rfl
@[simp] theorem lineTimeout_txfifo (s : State) : (lineTimeout s).txfifo = s.txfifo := rfl
@[simp] theorem lineTimeout_inbuf (s : State) : (lineTimeout s).inbuf = s.inbuf := rfl
@[simp] theorem lineTimeout_outbuf (s : State) : (lineTimeout s).outbuf = s.outbuf := rfl
@[simp] theorem lineTimeout_port (s : State) : (lineTimeout s).port = s.port := rfl
@[simp] theorem lineTimeout_resp (s : State) : (lineTimeout s).resp = s.resp := rfl

/-! ### hardReset -/

@[simp] theorem hardReset_osc (s : State) : (hardReset s).osc = State.reset.osc := rfl
@[simp] theorem hardReset_sreg (s : State) : (hardReset s).sreg = State.reset.sreg := rfl
@[simp] theorem hardReset_ctl (s : State) : (hardReset s).ctl = State.reset.ctl := rfl
@[simp] theorem hardReset_evt (s : State) : (hardReset s).evt = State.reset.evt := rfl
@[simp] theorem hardReset_sched (s : State) : (hardReset s).sched = State.reset.sched := rfl
@[simp] theorem hardReset_dial (s : State) : (hardReset s).dial = State.reset.dial := rfl
@[simp] theorem hardReset_dtrem (s : State) : (hardReset s).dtrem = State.reset.dtrem := rfl
@[simp] theorem hardReset_det (s : State) : (hardReset s).det = State.reset.det := rfl
@[simp] theorem hardReset_tim (s : State) : (hardReset s).tim = State.reset.tim := rfl
@[simp] theorem hardReset_fsk (s : State) : (hardReset s).fsk = State.reset.fsk := rfl
@[simp] theorem hardReset_psk (s : State) : (hardReset s).psk = State.reset.psk := rfl
@[simp] theorem hardReset_neg (s : State) : (hardReset s).neg = State.reset.neg := rfl
@[simp] theorem hardReset_scr (s : State) : (hardReset s).scr = State.reset.scr := rfl
@[simp] theorem hardReset_bq (s : State) : (hardReset s).bq = State.reset.bq := rfl
@[simp] theorem hardReset_rxfifo (s : State) : (hardReset s).rxfifo = State.reset.rxfifo := rfl
@[simp] theorem hardReset_txfifo (s : State) : (hardReset s).txfifo = State.reset.txfifo := rfl
@[simp] theorem hardReset_inbuf (s : State) : (hardReset s).inbuf = State.reset.inbuf := rfl
@[simp] theorem hardReset_outbuf (s : State) : (hardReset s).outbuf = State.reset.outbuf := rfl
@[simp] theorem hardReset_port (s : State) : (hardReset s).port = s.port := rfl
@[simp] theorem hardReset_resp (s : State) : (hardReset s).resp = State.reset.resp := rfl

end Sys2Proof.Machine
end

