-- ==== Sys2Proof/Laws/Ops.lean ====
section
/-! SUPPORT. Laws/Ops.lean: what the shared operations of Machine/Ops.lean, Machine/Operands.lean and
Machine/Flags.lean can do, said once each. -/

namespace Sys2Proof.Machine

/-! ### Completing and failing -/

/-- A completed command answers a next state with its value and nothing else changed. -/
theorem done_eq (v : Value) (s : State) : done v s = .next { s with resp := some (okWord v) } := rfl

/-- A command error answers a next state with CMDERR and the error word and nothing else changed. -/
theorem raise_eq (e : CmdError) (s : State) :
    raise e s = .next { s with evt := s.evt ||| Event.cmderr.mask, resp := some (errWord e) } := rfl

/-- A direct command in idle mode is its body. -/
theorem direct_idle (s : State) (body : Result) (h : s.sched.dp = .none) : direct s body = body := by
  simp [direct, h]

/-- A direct command in active mode is refused with BUSY. -/
theorem direct_active (s : State) (body : Result) (h : s.sched.dp ≠ .none) : direct s body = raise .busy s := by
  simp [direct, h]

@[simp] theorem inRange_some {α : Type} (x : α) (s : State) (body : α → Result) :
    inRange (some x) s body = body x := rfl

@[simp] theorem inRange_none {α : Type} (s : State) (body : α → Result) :
    inRange none s body = raise .range s := rfl

/-- What a checked operand can do. -/
theorem inRange_cases {α : Type} (o : Option α) (s : State) (body : α → Result) :
    (o = none ∧ inRange o s body = raise .range s) ∨ (∃ x, o = some x ∧ inRange o s body = body x) := by
  cases o with
  | none => exact Or.inl ⟨rfl, rfl⟩
  | some x => exact Or.inr ⟨x, rfl, rfl⟩

/-! ### Operands -/

/-- An oscillator index in range is the oscillator it names. -/
theorem oscOperand_val (i : Fin 12) (a : BitVec 8) (h : a.toNat = i.val) : oscOperand a = some i := by
  have hi := i.isLt
  unfold oscOperand
  rw [dif_pos (by omega)]
  congr 1
  exact Fin.ext h

/-- An oscillator index above 11 names nothing. -/
theorem oscOperand_none (a : BitVec 8) (h : 11 < a.toNat) : oscOperand a = none := by
  unfold oscOperand; rw [dif_neg (by omega)]

/-- An S register index in range is the register it names. -/
theorem sOperand_val (i : Fin 16) (a : BitVec 8) (h : a.toNat = i.val) : sOperand a = some i := by
  have hi := i.isLt
  unfold sOperand
  rw [dif_pos (by omega)]
  congr 1
  exact Fin.ext h

/-- An S register index above 15 names nothing. -/
theorem sOperand_none (a : BitVec 8) (h : 15 < a.toNat) : sOperand a = none := by
  unfold sOperand; rw [dif_neg (by omega)]

/-- The oscillator operand has a value exactly where the well-formedness check accepts it. -/
theorem oscOperand_isSome (a : BitVec 8) : (oscOperand a).isSome = oscIndexOk a := by
  revert a; decide

/-- The S register operand has a value exactly where the well-formedness check accepts it. -/
theorem sOperand_isSome (a : BitVec 8) : (sOperand a).isSome = sIndexOk a := by
  revert a; decide

/-- The control register operand has a value exactly where the well-formedness check accepts it. -/
theorem ctlOperand_isSome (a : BitVec 8) : (ctlOperand a).isSome = ctlIndexOk a := by
  revert a; decide

/-- The bit count operand has a value exactly where the well-formedness check accepts it. -/
theorem bitCountOperand_isSome (a : BitVec 8) : (bitCountOperand a).isSome = bitCountOk a := by
  revert a; decide

/-- A legal block count is itself. -/
theorem blockCountOperand_val (b : BitVec 16) (h : 1 ≤ b.toNat ∧ b.toNat ≤ 256) :
    blockCountOperand b = some b.toNat := by
  simp [blockCountOperand, h.1, h.2]

/-- A legal rate is itself. -/
theorem rateOperand_val (b : BitVec 16) (h : 1 ≤ b.toNat ∧ b.toNat ≤ 8000) : rateOperand b = some b.toNat := by
  simp [rateOperand, h.1, h.2]

/-- A legal bit count is itself. -/
theorem bitCountOperand_val (a : BitVec 8) (h : 1 ≤ a.toNat ∧ a.toNat ≤ 16) : bitCountOperand a = some a.toNat := by
  simp [bitCountOperand, h.1, h.2]

/-- The channels of a direction are the two different channels (43_symbol_timing_fsk.md R172). -/
theorem channels_ne (d : Direction) : d.txChannel ≠ d.rxChannel := by
  cases d <;> decide

/-! ### The oscillator bank -/

/-- The bank after a write of oscillator `i`. -/
theorem osc_setOsc (i j : Fin 12) (o : Osc) (s : State) :
    (setOsc i o s).osc[j] = if i = j then o else s.osc[j] := by
  simp [Vector.getElem_set, Fin.ext_iff]

/-- The bank after a write of a phase. -/
theorem osc_setPhase (i j : Fin 12) (p : BitVec 12) (s : State) :
    (setPhase i p s).osc[j] = if i = j then ⟨p, s.osc[j].inc⟩ else s.osc[j] := by
  unfold setPhase; rw [osc_setOsc]; split
  · subst j; rfl
  · rfl

/-- The bank after a write of an increment. -/
theorem osc_setInc (i j : Fin 12) (c : BitVec 12) (s : State) :
    (setInc i c s).osc[j] = if i = j then ⟨s.osc[j].phase, c⟩ else s.osc[j] := by
  unfold setInc; rw [osc_setOsc]; split
  · subst j; rfl
  · rfl

/-- The bank after an advance (40_oscillator.md R112). -/
theorem osc_oscAdv (i j : Fin 12) (s : State) :
    (oscAdv i s).osc[j] = if i = j then ⟨s.osc[j].phase + s.osc[j].inc, s.osc[j].inc⟩ else s.osc[j] := by
  unfold oscAdv; rw [osc_setPhase]; split
  · subst j; rfl
  · rfl

/-- Every entry of the printed quarter wave is at most the amplitude. -/
theorem quarterWave_le : ∀ r ∈ cfg.quarterWave, ∀ x ∈ r, x ≤ 32767 := by
  decide

/-- Property P2's bound for the quarter wave (40_oscillator.md R102). -/
theorem quarterCos_mem (i : Nat) : 0 ≤ quarterCos i ∧ quarterCos i ≤ 32767 := by
  have key : (cfg.quarterWave.getD (i / 16) []).getD (i % 16) 0 ≤ 32767 := by
    rw [List.getD_eq_getElem?_getD]
    cases h : (cfg.quarterWave.getD (i / 16) [])[i % 16]? with
    | none => simp
    | some x =>
      have hx := List.mem_of_getElem? h
      rw [List.getD_eq_getElem?_getD] at hx
      cases h2 : cfg.quarterWave[i / 16]? with
      | none => simp [h2] at hx
      | some r =>
        rw [h2] at hx
        exact quarterWave_le r (List.mem_of_getElem? h2) x hx
  unfold quarterCos
  exact ⟨Int.natCast_nonneg _, by exact_mod_cast key⟩

/-- A value of the cosine table is within the amplitude. -/
theorem cosAt_natAbs_le (p : BitVec 12) : (cosAt p).natAbs ≤ 32767 := by
  have h : ∀ i, (halfCos i).natAbs ≤ 32767 := by
    intro i
    unfold halfCos; split
    · have := quarterCos_mem i; omega
    · have := quarterCos_mem (2048 - i); omega
  unfold cosAt; split <;> exact h _

/-- A value of the sine is within the amplitude. -/
theorem sinAt_natAbs_le (p : BitVec 12) : (sinAt p).natAbs ≤ 32767 := cosAt_natAbs_le _

/-! ### Events and responses -/

/-- The bit of EVT an event sets. -/
theorem getLsbD_mask (e : Event) (i : Nat) : e.mask.getLsbD i = decide (i = e.bit) := by
  have h : e.bit < 11 := by cases e <;> decide
  simp only [Event.mask, BitVec.getLsbD_twoPow]
  by_cases hi : i = e.bit
  · simp [hi, h]
  · simp [hi, Ne.symm hi]

/-- ERR of a success response is 0, and of an error response 1. -/
theorem err_bit (v : Value) (e : CmdError) : (okWord v).getLsbD 31 = false ∧ (errWord e).getLsbD 31 = true := by
  constructor
  · unfold okWord; rw [BitVec.getLsbD_append]; simp
  · cases e <;> decide

end Sys2Proof.Machine
end

