-- ==== Sys2Proof/Laws/Answers.lean ====
section
/-! SUPPORT. Laws/Answers.lean: the answers of the machine in the terms the statements use. -/

namespace Sys2Proof.Machine

/-- The response of a completed command is its value, zero-extended. -/
theorem okWord_eq (v : Value) : okWord v = v.setWidth 32 := by
  unfold okWord
  apply BitVec.eq_of_getLsbD_eq
  intro i hi
  rw [BitVec.getLsbD_append]
  simp only [BitVec.getLsbD_zero, BitVec.getLsbD_setWidth]
  by_cases h : i < 24
  · simp [h, hi]
  · simp [h, BitVec.getLsbD_of_ge v i (by omega)]

/-- Raising a command error is the error answer. -/
theorem raise_eq_errorAnswer (e : CmdError) (s : State) : raise e s = errorAnswer e s := by
  cases e <;> rfl

/-- A completed command answers a next state with its value, zero-extended. -/
theorem done_eq_setWidth (v : Value) (s : State) : done v s = .next { s with resp := some (v.setWidth 32) } := by
  rw [done_eq, okWord_eq]

/-- A direct command in active mode answers BUSY. -/
theorem direct_busy (s : State) (body : Result) (h : s.sched.dp ≠ .none) : direct s body = errorAnswer .busy s := by
  rw [direct_active s body h, raise_eq_errorAnswer]

/-- A direct command in idle mode, without looking at its body. -/
theorem direct_cases (s : State) (body : Result) :
    (s.sched.dp = .none ∧ direct s body = body) ∨ (s.sched.dp ≠ .none ∧ direct s body = errorAnswer .busy s) := by
  by_cases h : s.sched.dp = .none
  · exact Or.inl ⟨h, direct_idle s body h⟩
  · exact Or.inr ⟨h, direct_busy s body h⟩

/-- Running a list of commands that begins with one that answers `t`. -/
theorem execAll_cons {i : Instr} {rest : List Instr} {s t : State} (h : exec i s = .next t) :
    execAll (i :: rest) s = execAll rest t := by
  simp [execAll, h]

/-- The responses of a list of commands that begins with one that answers `t`. -/
theorem answers_cons {i : Instr} {rest : List Instr} {s t : State} (h : exec i s = .next t) :
    answers (i :: rest) s = t.resp.getD 0 :: answers rest t := by
  simp [answers, h]

/-- Running one list of commands after another. -/
theorem execAll_append {is js : List Instr} {s t : State} (h : execAll is s = some t) :
    execAll (is ++ js) s = execAll js t := by
  induction is generalizing s with
  | nil => simp only [execAll, Option.some.injEq] at h; rw [h]; rfl
  | cons i rest ih =>
    simp only [execAll, List.cons_append] at h ⊢
    cases hi : exec i s with
    | next u => simp only [hi] at h ⊢; exact ih h
    | fault f => simp [hi] at h
    | refused f => simp [hi] at h

end Sys2Proof.Machine
end

