-- ==== Sys2Proof/Laws/Frames.lean ====
section
/-! SUPPORT. Laws/Frames.lean: for each procedure of the units, which fields of State it can change: the
state after is the state before with new values in those fields only. Proofs `obtain` the new values and
substitute, instead of unfolding the procedure. -/

namespace Sys2Proof.Machine

/-! ### Detector (41_tone_detector.md) -/

theorem clearWindow_frame (s : State) : ∃ o d, clearWindow s = { s with osc := o, det := d } := ⟨_, _, rfl⟩

theorem detInit_frame (s : State) : ∃ o d, detInit s = { s with osc := o, det := d } := ⟨_, _, rfl⟩

theorem accumulate_frame (v : Int) (s : State) : ∃ o d, accumulate v s = { s with osc := o, det := d } := ⟨_, _, rfl⟩

theorem windowEnd_frame (s : State) : ∃ o d, (windowEnd s).2 = { s with osc := o, det := d } := ⟨_, _, rfl⟩

theorem detStep_frame (x : Int) (s : State) : ∃ o d, (detStep x s).2 = { s with osc := o, det := d } := by
  unfold detStep
  split
  · exact ⟨_, _, rfl⟩
  · dsimp only
    split
    · exact ⟨_, _, rfl⟩
    · exact ⟨_, _, rfl⟩

/-- A detector step with no budget left changes nothing (R126). -/
theorem detStep_timeout (x : Int) (s : State) (h : s.det.tmo = 0) : detStep x s = (.timeout, s) := by
  simp [detStep, h]

/-- A detector step times out exactly where no budget is left (R126). -/
theorem detStep_timeout_iff (x : Int) (s : State) : (detStep x s).1 = .timeout ↔ s.det.tmo = 0 := by
  unfold detStep
  split
  · simp [*]
  · dsimp only
    split
    · unfold windowEnd; dsimp only; split <;> simp [*]
    · simp [*]

/-! ### DTMF generator (42_dtmf_dialer.md) -/

theorem dtmfKey_frame (r c : Fin 4) (s : State) : ∃ o d, dtmfKey r c s = { s with osc := o, dtrem := d } := ⟨_, _, rfl⟩

theorem dtmfSample_frame (s : State) : ∃ o d, (dtmfSample s).2 = { s with osc := o, dtrem := d } := by
  unfold dtmfSample
  split
  · exact ⟨_, _, rfl⟩
  · exact ⟨_, _, rfl⟩

/-! ### Framing (47_framing_fifo.md) -/

theorem rxDeliver_frame (fr : BitVec 10) (s : State) :
    ∃ e f, rxDeliver fr s = { s with evt := e, rxfifo := f } := by
  unfold rxDeliver
  dsimp only
  split <;> split <;> exact ⟨_, _, rfl⟩

theorem rxAppend_frame (bit : Bool) (q : BitQ) : ∃ b c, (rxAppend bit q).2 = { q with rxb := b, rxc := c } := by
  unfold rxAppend
  dsimp only
  split <;> exact ⟨_, _, rfl⟩

theorem rxBit_frame (bit : Bool) (s : State) :
    ∃ b c e f, (rxBit bit s).2 =
      { s with bq := { s.bq with rxb := b, rxc := c }, evt := e, rxfifo := f } := by
  obtain ⟨b, c, h⟩ := rxAppend_frame bit s.bq
  unfold rxBit
  split
  · rename_i fr q hq
    rw [hq] at h
    dsimp only at h
    obtain ⟨e, f, h2⟩ := rxDeliver_frame fr { s with bq := q }
    rw [h2, h]
    exact ⟨b, c, e, f, rfl⟩
  · rename_i q hq
    rw [hq] at h
    dsimp only at h
    rw [h]
    exact ⟨b, c, _, _, rfl⟩

theorem bqRxPut_frame (n : Nat) (v : BitVec 16) (s : State) :
    ∃ b c e f, (bqRxPut n v s).2 =
      { s with bq := { s.bq with rxb := b, rxc := c }, evt := e, rxfifo := f } := by
  induction n generalizing s with
  | zero => exact ⟨_, _, _, _, rfl⟩
  | succ j ih =>
    obtain ⟨b, c, e, f, h⟩ := rxBit_frame (v.getLsbD j) s
    obtain ⟨b', c', e', f', h'⟩ := ih (rxBit (v.getLsbD j) s).2
    refine ⟨b', c', e', f', ?_⟩
    show (bqRxPut j v (rxBit (v.getLsbD j) s).2).2 = _
    rw [h', h]

theorem txFill_frame (n : Nat) (s : State) :
    ∃ b c f, txFill n s = { s with bq := { s.bq with txb := b, txc := c }, txfifo := f } := by
  unfold txFill
  split <;> exact ⟨_, _, _, rfl⟩

theorem txFillTo_frame (n turns : Nat) (s : State) :
    ∃ b c f, txFillTo n turns s = { s with bq := { s.bq with txb := b, txc := c }, txfifo := f } := by
  induction turns generalizing s with
  | zero => exact ⟨_, _, _, rfl⟩
  | succ k ih =>
    unfold txFillTo
    split
    · obtain ⟨b, c, f, h⟩ := txFill_frame n s
      obtain ⟨b', c', f', h'⟩ := ih (txFill n s)
      exact ⟨b', c', f', by rw [h', h]⟩
    · exact ⟨_, _, _, rfl⟩

theorem bqTxGet_frame (n : Nat) (s : State) :
    ∃ b c f, (bqTxGet n s).2 = { s with bq := { s.bq with txb := b, txc := c }, txfifo := f } := by
  obtain ⟨b, c, f, h⟩ := txFillTo_frame n n s
  obtain ⟨b', c', h2⟩ : ∃ b' c', (bqTxGet n s).2 =
      { txFillTo n n s with bq := { (txFillTo n n s).bq with txb := b', txc := c' } } := ⟨_, _, rfl⟩
  exact ⟨b', c', f, by rw [h2, h]⟩

/-! ### FSK modem (43_symbol_timing_fsk.md) -/

theorem fskInit_frame (d : Direction) (s : State) :
    ∃ o f t, fskInit d s = { s with osc := o, fsk := f, tim := t } := ⟨_, _, _, rfl⟩

theorem fskPull_frame (s : State) :
    ∃ f b c x, fskPull s = { s with fsk := f, bq := { s.bq with txb := b, txc := c }, txfifo := x } := by
  unfold fskPull
  split
  · obtain ⟨b, c, x, h⟩ := bqTxGet_frame 1 { s with fsk := { s.fsk with ftxacc := s.fsk.ftxacc - Param.fs } }
    dsimp only
    rw [h]
    exact ⟨_, b, c, x, rfl⟩
  · exact ⟨_, _, _, _, rfl⟩

theorem fskMod_frame (s : State) :
    ∃ o f b c x, (fskMod s).2 =
      { s with osc := o, fsk := f, bq := { s.bq with txb := b, txc := c }, txfifo := x } := by
  obtain ⟨f, b, c, x, h⟩ := fskPull_frame s
  unfold fskMod
  dsimp only
  rw [h]
  exact ⟨_, _, b, c, x, rfl⟩

theorem fskDem_frame (x : Int) (s : State) :
    ∃ o f t b c e r, (fskDem x s).2.2 =
      { s with osc := o, fsk := f, tim := t, bq := { s.bq with rxb := b, rxc := c }, evt := e, rxfifo := r } := by
  unfold fskDem
  dsimp only
  split
  · dsimp only
    generalize hw : ({ oscAdv 9 (oscAdv 8 (fskShift x s)) with
        fsk := (carrierUpdate (fskEnergy 8 (fskShift x s) + fskEnergy 9 (fskShift x s))
          (oscAdv 9 (oscAdv 8 (fskShift x s))).fsk).2
        tim := (timStep ((BitVec.ofBool
          (decide (0 ≤ fskEnergy 8 (fskShift x s) - fskEnergy 9 (fskShift x s)))).setWidth 2)
          (oscAdv 9 (oscAdv 8 (fskShift x s))).tim).2 } : State) = w
    obtain ⟨b, c, e, r, h⟩ := bqRxPut_frame 1 (w.tim.tcur.setWidth 16) w
    have hm : (timStep ((BitVec.ofBool
          (decide (0 ≤ fskEnergy 8 (fskShift x s) - fskEnergy 9 (fskShift x s)))).setWidth 2)
          (oscAdv 9 (oscAdv 8 (fskShift x s))).tim).2 = w.tim := by rw [← hw]
    rw [hm, h, ← hw]
    exact ⟨_, _, _, b, c, e, r, rfl⟩
  · exact ⟨_, _, _, _, _, _, _, rfl⟩

/-! ### PSK modem (44_psk_modem.md, 46_psk_negotiation.md) -/

theorem firTx_frame (x : Int) (s : State) : ∃ d, (firTx x s).2 = { s with psk := { s.psk with txd := d } } := ⟨_, rfl⟩

theorem firRx_frame (x : Int) (s : State) : ∃ d, (firRx x s).2 = { s with psk := { s.psk with rxd := d } } := ⟨_, rfl⟩

theorem pskInit_frame (d : Direction) (s : State) :
    ∃ o p n c t, pskInit d s = { s with osc := o, psk := p, neg := n, scr := c, tim := t } := ⟨_, _, _, _, _, rfl⟩

theorem pskGetsym_frame (s : State) :
    ∃ h c b n x, (pskGetsym s).2 =
      { s with neg := { s.neg with thold := h }, scr := c, bq := { s.bq with txb := b, txc := n }, txfifo := x } := by
  unfold pskGetsym
  split
  · exact ⟨_, _, _, _, _, rfl⟩
  · exact ⟨_, _, _, _, _, rfl⟩
  · split
    · exact ⟨_, _, _, _, _, rfl⟩
    · obtain ⟨b, c, x, h⟩ := bqTxGet_frame 2 s
      dsimp only
      rw [h]
      exact ⟨_, _, b, c, x, rfl⟩

theorem pskPull_frame (s : State) :
    ∃ o a h c b n x, pskPull s =
      { s with osc := o, psk := { s.psk with psymacc := a }, neg := { s.neg with thold := h }, scr := c,
               bq := { s.bq with txb := b, txc := n }, txfifo := x } := by
  unfold pskPull
  split
  · obtain ⟨h, c, b, n, x, e⟩ := pskGetsym_frame { s with psk := { s.psk with psymacc := s.psk.psymacc - Param.fs } }
    dsimp only
    rw [e]
    exact ⟨_, _, h, c, b, n, x, rfl⟩
  · exact ⟨_, _, _, _, _, _, _, rfl⟩

theorem pskMod_frame (s : State) :
    ∃ o p h c b n x, (pskMod s).2 =
      { s with osc := o, psk := p, neg := { s.neg with thold := h }, scr := c,
               bq := { s.bq with txb := b, txc := n }, txfifo := x } := by
  obtain ⟨o, a, h, c, b, n, x, e⟩ := pskPull_frame s
  unfold pskMod
  dsimp only
  rw [e]
  exact ⟨_, _, h, c, b, n, x, rfl⟩

theorem pskClass_frame (x : Int) (s : State) :
    ∃ o p, (pskClass x s).2 = { s with osc := o, psk := p } := ⟨_, _, rfl⟩

theorem negPut_frame (sym : BitVec 2) (s : State) :
    ∃ g k b c e f, (negPut sym s).2 =
      { s with neg := g, scr := k, bq := { s.bq with rxb := b, rxc := c }, evt := e, rxfifo := f } := by
  unfold negPut
  split
  · obtain ⟨b, c, e, f, h⟩ := bqRxPut_frame 2 ((scrDecDibit sym s.scr).1.setWidth 16)
      { s with scr := (scrDecDibit sym s.scr).2 }
    dsimp only
    rw [h]
    exact ⟨_, _, b, c, e, f, rfl⟩
  · exact ⟨_, _, _, _, _, _, rfl⟩
  · exact ⟨_, _, _, _, _, _, rfl⟩
  · exact ⟨_, _, _, _, _, _, rfl⟩

theorem pskDem_frame (x : Int) (s : State) :
    ∃ o p t g k b c e f, (pskDem x s).2.2 =
      { s with osc := o, psk := p, tim := t, neg := g, scr := k, bq := { s.bq with rxb := b, rxc := c },
               evt := e, rxfifo := f } := by
  obtain ⟨o, p, h⟩ := pskClass_frame x s
  unfold pskDem
  dsimp only
  rw [h]
  split
  · obtain ⟨g, k, b, c, e, f, h2⟩ := negPut_frame
      (timStep (mapS (pskClass x s).1) s.tim).2.tcur
      { s with osc := o, psk := p, tim := (timStep (mapS (pskClass x s).1) s.tim).2 }
    dsimp only at h2 ⊢
    rw [h2]
    exact ⟨_, _, _, g, k, b, c, e, f, rfl⟩
  · exact ⟨_, _, _, _, _, _, _, _, _, rfl⟩

/-! ### Dialer (42_dtmf_dialer.md section 2) -/

theorem dlFinish_frame (s : State) :
    ∃ l n e, dlFinish s =
      { s with dial := { s.dial with dlstate := l }, sched := { s.sched with next := n, pend := true }, evt := e } :=
  ⟨_, _, _, rfl⟩

theorem dlToken_frame (c : Byte) (s : State) :
    ∃ l n p e o d r, dlToken c s =
      { s with dial := { s.dial with dlstate := l }, sched := { s.sched with next := n, pend := p }, evt := e,
               osc := o, det := d, dtrem := r } := by
  unfold dlToken
  split
  · exact ⟨_, _, _, _, _, _, _, rfl⟩
  · split
    · exact ⟨_, _, _, _, _, _, _, rfl⟩
    · exact ⟨_, _, _, _, _, _, _, rfl⟩

theorem dlFetch_frame (s : State) :
    ∃ l k n p e o d r, dlFetch s =
      { s with dial := { s.dial with dlstate := l, dlpos := k }, sched := { s.sched with next := n, pend := p },
               evt := e, osc := o, det := d, dtrem := r } := by
  unfold dlFetch
  split
  · exact ⟨_, _, _, _, _, _, _, _, rfl⟩
  · obtain ⟨l, n, p, e, o, d, r, h⟩ := dlToken_frame (s.dial.dialstr.read s.dial.dlpos)
      { s with dial := { s.dial with dlpos := s.dial.dlpos + 1 } }
    rw [h]
    exact ⟨l, _, n, p, e, o, d, r, rfl⟩

/-! ### Sample loops -/

/-- What every turn of a sample loop relates, the whole loop relates. -/
theorem sampleLoop_rel (R : State → State → Prop) (turn : Nat → State → Turn × State) (hrefl : ∀ s, R s s)
    (htrans : ∀ s t u, R s t → R t u → R s u) (hturn : ∀ i s, R s (turn i s).2) (left i : Nat) (s : State) :
    R s (sampleLoop turn left i s).2 := by
  induction left generalizing i s with
  | zero => exact hrefl s
  | succ j ih =>
    have h := hturn i s
    unfold sampleLoop
    generalize turn i s = r at h ⊢
    obtain ⟨k, t⟩ := r
    cases k with
    | stop => exact h
    | last => exact h
    | more => exact htrans s t _ h (ih (i + 1) t)

/-- A property that every turn keeps, the whole loop keeps. -/
theorem sampleLoop_inv (P : State → Prop) (turn : Nat → State → Turn × State) (hturn : ∀ i s, P s → P (turn i s).2)
    (left i : Nat) (s : State) (h : P s) : P (sampleLoop turn left i s).2 :=
  sampleLoop_rel (fun s t => P s → P t) turn (fun _ h => h) (fun _ _ _ f g h => g (f h)) hturn left i s h

/-- A property of the state before sample `i`, which a turn takes to the next sample, holds at the index the
loop stops at; the turns only have to keep it at the samples the loop reaches. -/
theorem sampleLoop_inv_at (P : Nat → State → Prop) (Q : State → Prop) (turn : Nat → State → Turn × State) (n : Nat)
    (hstop : ∀ i s t, i < n → P i s → turn i s = (.stop, t) → Q t)
    (hlast : ∀ i s t, i < n → P i s → turn i s = (.last, t) → Q t)
    (hmore : ∀ i s t, i < n → P i s → turn i s = (.more, t) → P (i + 1) t) (hend : ∀ s, P n s → Q s)
    (left i : Nat) (s : State) (hn : i + left = n) (h : P i s) : Q (sampleLoop turn left i s).2 := by
  induction left generalizing i s with
  | zero => exact hend s (by rw [← hn]; exact h)
  | succ j ih =>
    unfold sampleLoop
    cases hr : turn i s with
    | mk k t =>
      cases k with
      | stop => exact hstop i s t (by omega) h hr
      | last => exact hlast i s t (by omega) h hr
      | more => exact ih (i + 1) t (by omega) (hmore i s t (by omega) h hr)

/-- The count of samples produced lies between the first index and the end of the block
(48_scheduler_host.md R295). -/
theorem sampleLoop_count (turn : Nat → State → Turn × State) (left i : Nat) (s : State) :
    i ≤ (sampleLoop turn left i s).1 ∧ (sampleLoop turn left i s).1 ≤ i + left := by
  induction left generalizing i s with
  | zero => exact ⟨le_rfl, le_rfl⟩
  | succ j ih =>
    unfold sampleLoop
    generalize turn i s = r
    obtain ⟨k, t⟩ := r
    cases k with
    | stop => exact ⟨le_rfl, by simp⟩
    | last => constructor <;> simp
    | more => have := ih (i + 1) t; constructor <;> simp only <;> omega

/-- One sample more (20_memory.md R70): where a turn that ends the block sets `P` (a request outstanding) and no other
turn does, a block of one more sample is the same block if it has ended, and else that block and one turn. -/
theorem sampleLoop_succ (P : State → Prop) (turn : Nat → State → Turn × State)
    (hend : ∀ i s t, turn i s = (.stop, t) ∨ turn i s = (.last, t) → P t)
    (hmore : ∀ i s t, ¬ P s → turn i s = (.more, t) → ¬ P t) (left i : Nat) (s : State) (h : ¬ P s) :
    (P (sampleLoop turn left i s).2 ∧ sampleLoop turn (left + 1) i s = sampleLoop turn left i s) ∨
    (¬ P (sampleLoop turn left i s).2 ∧ (sampleLoop turn left i s).1 = i + left ∧
      sampleLoop turn (left + 1) i s = sampleLoop turn 1 (i + left) (sampleLoop turn left i s).2) := by
  induction left generalizing i s with
  | zero => exact .inr ⟨h, rfl, rfl⟩
  | succ j ih =>
    rw [sampleLoop.eq_2 turn i s (j + 1), sampleLoop.eq_2 turn i s j]
    cases hr : turn i s with
    | mk k t =>
      cases k with
      | stop => exact .inl ⟨hend i s t (.inl hr), rfl⟩
      | last => exact .inl ⟨hend i s t (.inr hr), rfl⟩
      | more =>
        have := ih (i + 1) t (hmore i s t h hr)
        rwa [show i + 1 + j = i + (j + 1) by omega] at this

/-! ### The datapumps -/

/-- What the dialer leaves unchanged (42_dtmf_dialer.md R149 to R151). -/
structure KeepsDialer (s t : State) : Prop where
  sreg : t.sreg = s.sreg
  ctl : t.ctl = s.ctl
  dp : t.sched.dp = s.sched.dp
  dir : t.sched.dir = s.sched.dir
  connect : t.sched.connect = s.sched.connect
  offhook : t.sched.offhook = s.sched.offhook
  lt : t.sched.lt = s.sched.lt
  dls8 : t.dial.dls8 = s.dial.dls8
  diallen : t.dial.diallen = s.dial.diallen
  dialstr : t.dial.dialstr = s.dial.dialstr
  tim : t.tim = s.tim
  fsk : t.fsk = s.fsk
  psk : t.psk = s.psk
  neg : t.neg = s.neg
  scr : t.scr = s.scr
  bq : t.bq = s.bq
  rxfifo : t.rxfifo = s.rxfifo
  txfifo : t.txfifo = s.txfifo
  inbuf : t.inbuf = s.inbuf
  port : t.port = s.port
  resp : t.resp = s.resp

theorem KeepsDialer.refl (s : State) : KeepsDialer s s := by constructor <;> rfl

theorem KeepsDialer.trans {s t u : State} (h : KeepsDialer s t) (k : KeepsDialer t u) : KeepsDialer s u := by
  constructor
  · exact k.sreg.trans h.sreg
  · exact k.ctl.trans h.ctl
  · exact k.dp.trans h.dp
  · exact k.dir.trans h.dir
  · exact k.connect.trans h.connect
  · exact k.offhook.trans h.offhook
  · exact k.lt.trans h.lt
  · exact k.dls8.trans h.dls8
  · exact k.diallen.trans h.diallen
  · exact k.dialstr.trans h.dialstr
  · exact k.tim.trans h.tim
  · exact k.fsk.trans h.fsk
  · exact k.psk.trans h.psk
  · exact k.neg.trans h.neg
  · exact k.scr.trans h.scr
  · exact k.bq.trans h.bq
  · exact k.rxfifo.trans h.rxfifo
  · exact k.txfifo.trans h.txfifo
  · exact k.inbuf.trans h.inbuf
  · exact k.port.trans h.port
  · exact k.resp.trans h.resp

theorem dialerWaitTurn_keeps (i : Nat) (s : State) : KeepsDialer s (dialerWaitTurn i s).2 := by
  obtain ⟨o, d, h⟩ := detStep_frame (inSample i s) s
  unfold dialerWaitTurn
  dsimp only
  split
  · rw [h]
    obtain ⟨l, k, n, p, e, o, d, r, h2⟩ := dlFetch_frame { s with osc := o, det := d }
    rw [h2]
    constructor <;> rfl
  · rw [h]
    split <;> constructor <;> rfl

theorem dialerToneTurn_keeps (i : Nat) (s : State) : KeepsDialer s (dialerToneTurn i s).2 := by
  unfold dialerToneTurn
  split
  · exact KeepsDialer.refl s
  · obtain ⟨o, r, h⟩ := dtmfSample_frame s
    dsimp only
    rw [h]
    constructor <;> rfl

theorem dialerProcess_keeps (n : Nat) (s : State) : KeepsDialer s (dialerProcess n s).2 := by
  unfold dialerProcess
  split
  · exact KeepsDialer.refl s
  · exact sampleLoop_rel _ _ KeepsDialer.refl (fun _ _ _ => KeepsDialer.trans) dialerWaitTurn_keeps n 0 s
  · split
    · obtain ⟨l, k, n, p, e, o, d, r, h2⟩ := dlFetch_frame s
      rw [h2]
      constructor <;> rfl
    · exact sampleLoop_rel _ _ KeepsDialer.refl (fun _ _ _ => KeepsDialer.trans) dialerToneTurn_keeps n 0 s

/-- What the detector datapump leaves unchanged (48_scheduler_host.md R297). -/
structure KeepsDetector (s t : State) : Prop where
  sreg : t.sreg = s.sreg
  ctl : t.ctl = s.ctl
  dp : t.sched.dp = s.sched.dp
  dir : t.sched.dir = s.sched.dir
  connect : t.sched.connect = s.sched.connect
  offhook : t.sched.offhook = s.sched.offhook
  lt : t.sched.lt = s.sched.lt
  dial : t.dial = s.dial
  dtrem : t.dtrem = s.dtrem
  tim : t.tim = s.tim
  fsk : t.fsk = s.fsk
  psk : t.psk = s.psk
  neg : t.neg = s.neg
  scr : t.scr = s.scr
  bq : t.bq = s.bq
  rxfifo : t.rxfifo = s.rxfifo
  txfifo : t.txfifo = s.txfifo
  inbuf : t.inbuf = s.inbuf
  port : t.port = s.port
  resp : t.resp = s.resp

theorem KeepsDetector.refl (s : State) : KeepsDetector s s := by constructor <;> rfl

theorem KeepsDetector.trans {s t u : State} (h : KeepsDetector s t) (k : KeepsDetector t u) : KeepsDetector s u := by
  constructor
  · exact k.sreg.trans h.sreg
  · exact k.ctl.trans h.ctl
  · exact k.dp.trans h.dp
  · exact k.dir.trans h.dir
  · exact k.connect.trans h.connect
  · exact k.offhook.trans h.offhook
  · exact k.lt.trans h.lt
  · exact k.dial.trans h.dial
  · exact k.dtrem.trans h.dtrem
  · exact k.tim.trans h.tim
  · exact k.fsk.trans h.fsk
  · exact k.psk.trans h.psk
  · exact k.neg.trans h.neg
  · exact k.scr.trans h.scr
  · exact k.bq.trans h.bq
  · exact k.rxfifo.trans h.rxfifo
  · exact k.txfifo.trans h.txfifo
  · exact k.inbuf.trans h.inbuf
  · exact k.port.trans h.port
  · exact k.resp.trans h.resp

theorem detectorTurn_keeps (i : Nat) (s : State) : KeepsDetector s (detectorTurn i s).2 := by
  obtain ⟨o, d, h⟩ := detStep_frame (inSample i s) s
  unfold detectorTurn
  dsimp only
  split
  · rw [h]; constructor <;> rfl
  · rw [h]
    split <;> constructor <;> rfl

theorem lineTimer_frame {s t : State} (h : lineTimer s = some t) :
    ∃ l, t = { s with sched := { s.sched with lt := l } } := by
  unfold lineTimer at h
  split at h
  · cases h; exact ⟨_, rfl⟩
  · split at h
    · cases h
    · cases h; exact ⟨_, rfl⟩

/-- What the FSK datapump leaves unchanged (48_scheduler_host.md R299). -/
structure KeepsFsk (s t : State) : Prop where
  sreg : t.sreg = s.sreg
  ctl : t.ctl = s.ctl
  dp : t.sched.dp = s.sched.dp
  dir : t.sched.dir = s.sched.dir
  offhook : t.sched.offhook = s.sched.offhook
  dial : t.dial = s.dial
  dtrem : t.dtrem = s.dtrem
  det : t.det = s.det
  psk : t.psk = s.psk
  neg : t.neg = s.neg
  scr : t.scr = s.scr
  inbuf : t.inbuf = s.inbuf
  port : t.port = s.port
  resp : t.resp = s.resp

theorem KeepsFsk.refl (s : State) : KeepsFsk s s := by constructor <;> rfl

theorem KeepsFsk.trans {s t u : State} (h : KeepsFsk s t) (k : KeepsFsk t u) : KeepsFsk s u := by
  constructor
  · exact k.sreg.trans h.sreg
  · exact k.ctl.trans h.ctl
  · exact k.dp.trans h.dp
  · exact k.dir.trans h.dir
  · exact k.offhook.trans h.offhook
  · exact k.dial.trans h.dial
  · exact k.dtrem.trans h.dtrem
  · exact k.det.trans h.det
  · exact k.psk.trans h.psk
  · exact k.neg.trans h.neg
  · exact k.scr.trans h.scr
  · exact k.inbuf.trans h.inbuf
  · exact k.port.trans h.port
  · exact k.resp.trans h.resp

theorem lineTimer_keepsFsk {s t : State} (h : lineTimer s = some t) : KeepsFsk s t := by
  obtain ⟨l, hl⟩ := lineTimer_frame h
  subst hl
  constructor <;> rfl

theorem fskMod_keeps (s : State) : KeepsFsk s (fskMod s).2 := by
  obtain ⟨o, f, b, c, x, h⟩ := fskMod_frame s
  rw [h]
  constructor <;> rfl

theorem fskDem_keeps (x : Int) (s : State) : KeepsFsk s (fskDem x s).2.2 := by
  obtain ⟨o, f, t, b, c, e, r, h⟩ := fskDem_frame x s
  rw [h]
  constructor <;> rfl

theorem fskSample_keeps (i : Nat) (s : State) : KeepsFsk s (fskSample i s).2 :=
  ((fskMod_keeps s).trans (t := (fskMod s).2)
    (KeepsFsk.trans (t := setOut i (fskMod s).1 (fskMod s).2) (by constructor <;> rfl) (fskDem_keeps _ _)))

theorem fskTurn_keeps (i : Nat) (s : State) : KeepsFsk s (fskTurn i s).2 := by
  unfold fskTurn
  split
  · constructor <;> rfl
  · rename_i t ht
    have key := (lineTimer_keepsFsk ht).trans (fskSample_keeps i t)
    generalize fskSample i t = d at key ⊢
    obtain ⟨ev, u⟩ := d
    refine key.trans (t := u) ?_
    cases ev <;> constructor <;> rfl

/-- What the PSK datapump leaves unchanged (48_scheduler_host.md R300). -/
structure KeepsPsk (s t : State) : Prop where
  sreg : t.sreg = s.sreg
  ctl : t.ctl = s.ctl
  dp : t.sched.dp = s.sched.dp
  dir : t.sched.dir = s.sched.dir
  offhook : t.sched.offhook = s.sched.offhook
  dial : t.dial = s.dial
  dtrem : t.dtrem = s.dtrem
  det : t.det = s.det
  fsk : t.fsk = s.fsk
  inbuf : t.inbuf = s.inbuf
  port : t.port = s.port
  resp : t.resp = s.resp

theorem KeepsPsk.refl (s : State) : KeepsPsk s s := by constructor <;> rfl

theorem KeepsPsk.trans {s t u : State} (h : KeepsPsk s t) (k : KeepsPsk t u) : KeepsPsk s u := by
  constructor
  · exact k.sreg.trans h.sreg
  · exact k.ctl.trans h.ctl
  · exact k.dp.trans h.dp
  · exact k.dir.trans h.dir
  · exact k.offhook.trans h.offhook
  · exact k.dial.trans h.dial
  · exact k.dtrem.trans h.dtrem
  · exact k.det.trans h.det
  · exact k.fsk.trans h.fsk
  · exact k.inbuf.trans h.inbuf
  · exact k.port.trans h.port
  · exact k.resp.trans h.resp

theorem lineTimer_keepsPsk {s t : State} (h : lineTimer s = some t) : KeepsPsk s t := by
  obtain ⟨l, hl⟩ := lineTimer_frame h
  subst hl
  constructor <;> rfl

theorem pskMod_keeps (s : State) : KeepsPsk s (pskMod s).2 := by
  obtain ⟨o, p, h, c, b, n, x, h⟩ := pskMod_frame s
  rw [h]
  constructor <;> rfl

theorem pskDem_keeps (x : Int) (s : State) : KeepsPsk s (pskDem x s).2.2 := by
  obtain ⟨o, p, t, g, k, b, c, e, f, h⟩ := pskDem_frame x s
  rw [h]
  constructor <;> rfl

theorem pskSample_keeps (i : Nat) (s : State) : KeepsPsk s (pskSample i s).2 :=
  ((pskMod_keeps s).trans (t := (pskMod s).2)
    (KeepsPsk.trans (t := setOut i (pskMod s).1 (pskMod s).2) (by constructor <;> rfl) (pskDem_keeps _ _)))

theorem pskTurn_keeps (i : Nat) (s : State) : KeepsPsk s (pskTurn i s).2 := by
  unfold pskTurn
  split
  · constructor <;> rfl
  · rename_i t ht
    have key := (lineTimer_keepsPsk ht).trans (pskSample_keeps i t)
    generalize pskSample i t = d at key ⊢
    obtain ⟨ev, u⟩ := d
    refine key.trans (t := u) ?_
    cases ev <;> constructor <;> rfl

theorem zeroFill_frame (left i : Nat) (s : State) : ∃ m, zeroFill left i s = { s with outbuf := m } := by
  induction left generalizing i s with
  | zero => exact ⟨_, rfl⟩
  | succ j ih =>
    obtain ⟨m, h⟩ := ih (i + 1) (setOut i 0 s)
    exact ⟨m, by unfold zeroFill; rw [h]; rfl⟩

/-- What processing a block leaves unchanged, in every datapump: the S registers, the control registers, DP,
DIR, OFFHOOK, DLS8, the dial string, INBUF, the port and the response (10_state.md R26, 20_memory.md R61). -/
structure KeepsBlock (s t : State) : Prop where
  sreg : t.sreg = s.sreg
  ctl : t.ctl = s.ctl
  dp : t.sched.dp = s.sched.dp
  dir : t.sched.dir = s.sched.dir
  offhook : t.sched.offhook = s.sched.offhook
  dls8 : t.dial.dls8 = s.dial.dls8
  diallen : t.dial.diallen = s.dial.diallen
  dialstr : t.dial.dialstr = s.dial.dialstr
  inbuf : t.inbuf = s.inbuf
  port : t.port = s.port
  resp : t.resp = s.resp

theorem KeepsBlock.refl (s : State) : KeepsBlock s s := by constructor <;> rfl

theorem KeepsBlock.trans {s t u : State} (h : KeepsBlock s t) (k : KeepsBlock t u) : KeepsBlock s u := by
  constructor
  · exact k.sreg.trans h.sreg
  · exact k.ctl.trans h.ctl
  · exact k.dp.trans h.dp
  · exact k.dir.trans h.dir
  · exact k.offhook.trans h.offhook
  · exact k.dls8.trans h.dls8
  · exact k.diallen.trans h.diallen
  · exact k.dialstr.trans h.dialstr
  · exact k.inbuf.trans h.inbuf
  · exact k.port.trans h.port
  · exact k.resp.trans h.resp

theorem KeepsDialer.block {s t : State} (h : KeepsDialer s t) : KeepsBlock s t :=
  ⟨h.sreg, h.ctl, h.dp, h.dir, h.offhook, h.dls8, h.diallen, h.dialstr, h.inbuf, h.port, h.resp⟩

theorem KeepsDetector.block {s t : State} (h : KeepsDetector s t) : KeepsBlock s t := by
  refine ⟨h.sreg, h.ctl, h.dp, h.dir, h.offhook, ?_, ?_, ?_, h.inbuf, h.port, h.resp⟩ <;> rw [h.dial]

theorem KeepsFsk.block {s t : State} (h : KeepsFsk s t) : KeepsBlock s t := by
  refine ⟨h.sreg, h.ctl, h.dp, h.dir, h.offhook, ?_, ?_, ?_, h.inbuf, h.port, h.resp⟩ <;> rw [h.dial]

theorem KeepsPsk.block {s t : State} (h : KeepsPsk s t) : KeepsBlock s t := by
  refine ⟨h.sreg, h.ctl, h.dp, h.dir, h.offhook, ?_, ?_, ?_, h.inbuf, h.port, h.resp⟩ <;> rw [h.dial]

theorem dpProcess_keeps (n : Nat) (s : State) : KeepsBlock s (dpProcess n s).2 := by
  unfold dpProcess
  split
  · exact KeepsBlock.refl s
  · exact (dialerProcess_keeps n s).block
  · exact (sampleLoop_rel _ _ KeepsDetector.refl (fun _ _ _ => KeepsDetector.trans) detectorTurn_keeps n 0 s).block
  · exact (sampleLoop_rel _ _ KeepsFsk.refl (fun _ _ _ => KeepsFsk.trans) fskTurn_keeps n 0 s).block
  · exact (sampleLoop_rel _ _ KeepsPsk.refl (fun _ _ _ => KeepsPsk.trans) pskTurn_keeps n 0 s).block

/-- The number of samples a block produces (48_scheduler_host.md R295: 0 <= p <= n). -/
theorem dpProcess_count (n : Nat) (s : State) : (dpProcess n s).1 ≤ n := by
  have h : ∀ turn, (sampleLoop turn n 0 s).1 ≤ n := fun turn => by
    have := (sampleLoop_count turn n 0 s).2; omega
  unfold dpProcess
  split
  · exact Nat.zero_le n
  · unfold dialerProcess
    split
    · exact Nat.zero_le n
    · exact h _
    · split
      · exact Nat.zero_le n
      · exact h _
  · exact h _
  · exact h _
  · exact h _

end Sys2Proof.Machine
end

