-- ==== Sys2Proof/Laws/Memory.lean ====
section
/-! SUPPORT. Laws/Memory.lean: what reading and writing a memory do, and that every write keeps the
canonical form. -/

namespace Sys2Proof.Machine

@[simp] theorem Memory.read_nil {w : Nat} (i : Nat) : Memory.read ([] : Memory w) i = 0 := rfl

/-- The canonical form from `lo` on holds from any smaller index on. -/
theorem Memory.wfFrom_mono {w : Nat} {cells lo lo' : Nat} (m : Memory w) (h : m.wfFrom cells lo = true)
    (hle : lo' ≤ lo) : m.wfFrom cells lo' = true := by
  cases m with
  | nil => rfl
  | cons c rest =>
    obtain ⟨j, v⟩ := c
    simp only [Memory.wfFrom, Bool.and_eq_true, decide_eq_true_eq] at h ⊢
    exact ⟨⟨⟨hle.trans h.1.1.1, h.1.1.2⟩, h.1.2⟩, h.2⟩

/-- Below its first index a canonical memory reads as zero. -/
theorem Memory.read_below {w : Nat} {cells lo : Nat} (m : Memory w) (h : m.wfFrom cells lo = true) (i : Nat)
    (hi : i < lo) : m.read i = 0 := by
  induction m generalizing lo with
  | nil => rfl
  | cons c rest ih =>
    obtain ⟨j, v⟩ := c
    simp only [Memory.wfFrom, Bool.and_eq_true, decide_eq_true_eq] at h
    have hj : j ≠ i := by omega
    simp only [Memory.read, if_neg hj]
    exact ih h.2 (by omega)

/-- A write inside the space keeps the canonical form. -/
theorem Memory.write_wfFrom {w : Nat} {cells lo : Nat} (m : Memory w) (h : m.wfFrom cells lo = true) (i : Nat)
    (v : BitVec w) (hlo : lo ≤ i) (hi : i < cells) : (m.write i v).wfFrom cells lo = true := by
  induction m generalizing lo with
  | nil =>
    unfold Memory.write; split
    · rfl
    · simp_all [Memory.wfFrom]
  | cons c rest ih =>
    obtain ⟨j, u⟩ := c
    simp only [Memory.wfFrom, Bool.and_eq_true, decide_eq_true_eq] at h
    obtain ⟨⟨⟨h1, h2⟩, h3⟩, h4⟩ := h
    unfold Memory.write
    split
    · split
      · simp [Memory.wfFrom, h1, h2, h4]
        simpa using h3
      · simp only [Memory.wfFrom, Bool.and_eq_true, decide_eq_true_eq]
        exact ⟨⟨⟨hlo, hi⟩, by simpa using ‹¬v = 0›⟩, ⟨⟨by omega, h2⟩, h3⟩, h4⟩
    · split
      · split
        · exact Memory.wfFrom_mono rest h4 (by omega)
        · simp only [Memory.wfFrom, Bool.and_eq_true, decide_eq_true_eq]
          subst i
          exact ⟨⟨⟨hlo, hi⟩, by simpa using ‹¬v = 0›⟩, h4⟩
      · simp only [Memory.wfFrom, Bool.and_eq_true, decide_eq_true_eq]
        exact ⟨⟨⟨h1, h2⟩, h3⟩, ih h4 (by omega)⟩

/-- A write inside the space keeps the canonical form. -/
theorem Memory.write_wf {w : Nat} {cells : Nat} (m : Memory w) (h : m.wf cells = true) (i : Nat) (v : BitVec w)
    (hi : i < cells) : (m.write i v).wf cells = true :=
  Memory.write_wfFrom m h i v (Nat.zero_le i) hi

/-- A write leaves every other cell alone; no canonical form is needed. -/
@[simp] theorem Memory.read_write_other {w : Nat} (m : Memory w) (i j : Nat) (v : BitVec w) (h : j ≠ i) :
    (m.write i v).read j = m.read j := by
  induction m with
  | nil =>
    unfold Memory.write; split
    · rfl
    · simp [Memory.read, Ne.symm h]
  | cons c rest ih =>
    obtain ⟨k, u⟩ := c
    unfold Memory.write
    split
    · split
      · rfl
      · simp [Memory.read, Ne.symm h]
    · split
      · subst k
        split
        · simp [Memory.read, Ne.symm h]
        · simp [Memory.read, Ne.symm h]
      · simp only [Memory.read]; rw [ih]

/-- A read after a write to the same cell gives the value written. -/
theorem Memory.read_write_same {w : Nat} {cells lo : Nat} (m : Memory w) (h : m.wfFrom cells lo = true) (i : Nat)
    (v : BitVec w) : (m.write i v).read i = v := by
  induction m generalizing lo with
  | nil =>
    unfold Memory.write; split
    · rename_i hv; simp [Memory.read, hv]
    · simp [Memory.read]
  | cons c rest ih =>
    obtain ⟨k, u⟩ := c
    simp only [Memory.wfFrom, Bool.and_eq_true, decide_eq_true_eq] at h
    unfold Memory.write
    split
    · rename_i hik
      split
      · rename_i hv
        have hk : k ≠ i := by omega
        simp only [Memory.read, if_neg hk, hv]
        exact Memory.read_below rest h.2 i (by omega)
      · simp [Memory.read]
    · split
      · subst k
        split
        · rename_i hv
          rw [hv]
          exact Memory.read_below rest h.2 i (by omega)
        · simp [Memory.read]
      · rename_i hne
        simp only [Memory.read, if_neg (Ne.symm hne)]
        exact ih h.2

/-- A read after a write, on a canonical memory. -/
theorem Memory.read_write {w : Nat} {cells : Nat} (m : Memory w) (h : m.wf cells = true) (i j : Nat) (v : BitVec w) :
    (m.write i v).read j = if j = i then v else m.read j := by
  split
  · subst j; exact Memory.read_write_same m h i v
  · exact Memory.read_write_other m i j v ‹_›

/-- The reset state's memories are in canonical form. -/
theorem reset_memoryCanonical : State.reset.dial.dialstr.wf 64 = true ∧ State.reset.rxfifo.cells.wf 256 = true ∧
    State.reset.txfifo.cells.wf 256 = true ∧ State.reset.inbuf.wf 256 = true ∧ State.reset.outbuf.wf 256 = true := by
  decide

/-- What a push can do (20_memory.md R63). -/
theorem Fifo.push_cases (f : Fifo) (b : Byte) :
    (f.head + 1 = f.tail ∧ f.push b = none) ∨
    (f.head + 1 ≠ f.tail ∧
      f.push b = some { f with cells := f.cells.write f.head.toNat b, head := f.head + 1 }) := by
  unfold Fifo.push; split
  · exact Or.inl ⟨‹_›, rfl⟩
  · exact Or.inr ⟨‹_›, rfl⟩

/-- What a pop can do (20_memory.md R63). -/
theorem Fifo.pop_cases (f : Fifo) :
    (f.head = f.tail ∧ f.pop = none) ∨
    (f.head ≠ f.tail ∧ f.pop = some (f.cells.read f.tail.toNat, { f with tail := f.tail + 1 })) := by
  unfold Fifo.pop; split
  · exact Or.inl ⟨‹_›, rfl⟩
  · exact Or.inr ⟨‹_›, rfl⟩

/-- A full ring is one that holds 255 bytes (20_memory.md R63). -/
theorem Fifo.full_iff_count (f : Fifo) : f.head + 1 = f.tail ↔ f.count = 255 := by
  unfold Fifo.count
  constructor <;> intro h <;> bv_omega

/-- A push keeps the cells' canonical form. -/
theorem Fifo.push_wf {f g : Fifo} {b : Byte} (h : f.push b = some g) (hf : f.cells.wf 256 = true) :
    g.cells.wf 256 = true := by
  rcases f.push_cases b with ⟨_, hp⟩ | ⟨_, hp⟩
  · simp [hp] at h
  · rw [hp] at h
    cases h
    exact Memory.write_wf f.cells hf _ b f.head.isLt

/-- A pop leaves the cells alone. -/
theorem Fifo.pop_cells {f g : Fifo} {c : Byte} (h : f.pop = some (c, g)) : g.cells = f.cells := by
  rcases f.pop_cases with ⟨_, hp⟩ | ⟨_, hp⟩
  · simp [hp] at h
  · rw [hp] at h; cases h; rfl

end Sys2Proof.Machine
end

