-- ==== Sys2Proof/Laws/PerInstr.lean ====
section
/-! SUPPORT. Laws/PerInstr.lean: statements made of every command, one lemma per constructor. -/

namespace Sys2Proof.Laws

/-- The three fields of a command word are the three it was packed from (30_encoding.md R80). -/
theorem fields_pack (op a : BitVec 8) (b : BitVec 16) :
    opField (pack op a b) = op ∧ aField (pack op a b) = a ∧ bField (pack op a b) = b := by
  refine ⟨?_, ?_, ?_⟩ <;>
  · apply BitVec.eq_of_getLsbD_eq
    intro i hi
    simp only [opField, aField, bField, pack, BitVec.getLsbD_extractLsb', BitVec.getLsbD_append, hi,
      decide_true, Bool.true_and]
    split
    · first | omega | (congr 1; omega)
    · first | omega | (split <;> first | omega | (congr 1; omega))

/-- A command's word holds the command's opcode, which the table lists, and its operand fields. -/
def EncodesFields.Statement (i : Instr) : Prop :=
  opField (encode i) = opcode i ∧ aField (encode i) = operandA i ∧ bField (encode i) = operandB i ∧
    opcode i ∈ legalOpcodes

/-- The fields of an encoded command, whichever it is. -/
theorem fields_encode (i : Instr) :
    opField (encode i) = opcode i ∧ aField (encode i) = operandA i ∧ bField (encode i) = operandB i :=
  fields_pack _ _ _

/-- The statement for one command, given that the table lists its opcode. -/
theorem encodesFields_of_mem (i : Instr) (h : opcode i ∈ legalOpcodes) : EncodesFields.Statement i :=
  ⟨(fields_encode i).1, (fields_encode i).2.1, (fields_encode i).2.2, h⟩

theorem EncodesFields.nop : EncodesFields.Statement (.nop) :=
  encodesFields_of_mem _ (by show 0x00#8 ∈ legalOpcodes; decide)

theorem EncodesFields.reset : EncodesFields.Statement (.reset) :=
  encodesFields_of_mem _ (by show 0x01#8 ∈ legalOpcodes; decide)

theorem EncodesFields.wrs (a : BitVec 8) (b : BitVec 16) : EncodesFields.Statement (.wrs a b) :=
  encodesFields_of_mem _ (by show 0x02#8 ∈ legalOpcodes; decide)

theorem EncodesFields.rds (a : BitVec 8) : EncodesFields.Statement (.rds a) :=
  encodesFields_of_mem _ (by show 0x03#8 ∈ legalOpcodes; decide)

theorem EncodesFields.wrc (a : BitVec 8) (b : BitVec 16) : EncodesFields.Statement (.wrc a b) :=
  encodesFields_of_mem _ (by show 0x04#8 ∈ legalOpcodes; decide)

theorem EncodesFields.rdc (a : BitVec 8) : EncodesFields.Statement (.rdc a) :=
  encodesFields_of_mem _ (by show 0x05#8 ∈ legalOpcodes; decide)

theorem EncodesFields.rdst : EncodesFields.Statement (.rdst) :=
  encodesFields_of_mem _ (by show 0x06#8 ∈ legalOpcodes; decide)

theorem EncodesFields.rdev : EncodesFields.Statement (.rdev) :=
  encodesFields_of_mem _ (by show 0x07#8 ∈ legalOpcodes; decide)

theorem EncodesFields.dialc (b : BitVec 16) : EncodesFields.Statement (.dialc b) :=
  encodesFields_of_mem _ (by show 0x08#8 ∈ legalOpcodes; decide)

theorem EncodesFields.dialx : EncodesFields.Statement (.dialx) :=
  encodesFields_of_mem _ (by show 0x09#8 ∈ legalOpcodes; decide)

theorem EncodesFields.orig : EncodesFields.Statement (.orig) :=
  encodesFields_of_mem _ (by show 0x0A#8 ∈ legalOpcodes; decide)

theorem EncodesFields.answ : EncodesFields.Statement (.answ) :=
  encodesFields_of_mem _ (by show 0x0B#8 ∈ legalOpcodes; decide)

theorem EncodesFields.hup : EncodesFields.Statement (.hup) :=
  encodesFields_of_mem _ (by show 0x0C#8 ∈ legalOpcodes; decide)

theorem EncodesFields.wrin (a : BitVec 8) (b : BitVec 16) : EncodesFields.Statement (.wrin a b) :=
  encodesFields_of_mem _ (by show 0x0D#8 ∈ legalOpcodes; decide)

theorem EncodesFields.rdout (a : BitVec 8) : EncodesFields.Statement (.rdout a) :=
  encodesFields_of_mem _ (by show 0x0E#8 ∈ legalOpcodes; decide)

theorem EncodesFields.proc (b : BitVec 16) : EncodesFields.Statement (.proc b) :=
  encodesFields_of_mem _ (by show 0x0F#8 ∈ legalOpcodes; decide)

theorem EncodesFields.step (b : BitVec 16) : EncodesFields.Statement (.step b) :=
  encodesFields_of_mem _ (by show 0x10#8 ∈ legalOpcodes; decide)

theorem EncodesFields.txch (b : BitVec 16) : EncodesFields.Statement (.txch b) :=
  encodesFields_of_mem _ (by show 0x11#8 ∈ legalOpcodes; decide)

theorem EncodesFields.rxch : EncodesFields.Statement (.rxch) :=
  encodesFields_of_mem _ (by show 0x12#8 ∈ legalOpcodes; decide)

theorem EncodesFields.oscp (a : BitVec 8) (b : BitVec 16) : EncodesFields.Statement (.oscp a b) :=
  encodesFields_of_mem _ (by show 0x20#8 ∈ legalOpcodes; decide)

theorem EncodesFields.osci (a : BitVec 8) (b : BitVec 16) : EncodesFields.Statement (.osci a b) :=
  encodesFields_of_mem _ (by show 0x21#8 ∈ legalOpcodes; decide)

theorem EncodesFields.osca (a : BitVec 8) : EncodesFields.Statement (.osca a) :=
  encodesFields_of_mem _ (by show 0x22#8 ∈ legalOpcodes; decide)

theorem EncodesFields.oscc (a : BitVec 8) : EncodesFields.Statement (.oscc a) :=
  encodesFields_of_mem _ (by show 0x23#8 ∈ legalOpcodes; decide)

theorem EncodesFields.oscs (a : BitVec 8) : EncodesFields.Statement (.oscs a) :=
  encodesFields_of_mem _ (by show 0x24#8 ∈ legalOpcodes; decide)

theorem EncodesFields.oscr (a : BitVec 8) : EncodesFields.Statement (.oscr a) :=
  encodesFields_of_mem _ (by show 0x25#8 ∈ legalOpcodes; decide)

theorem EncodesFields.deti : EncodesFields.Statement (.deti) :=
  encodesFields_of_mem _ (by show 0x30#8 ∈ legalOpcodes; decide)

theorem EncodesFields.dett (a : BitVec 8) (b : BitVec 16) : EncodesFields.Statement (.dett a b) :=
  encodesFields_of_mem _ (by show 0x31#8 ∈ legalOpcodes; decide)

theorem EncodesFields.dets (b : BitVec 16) : EncodesFields.Statement (.dets b) :=
  encodesFields_of_mem _ (by show 0x32#8 ∈ legalOpcodes; decide)

theorem EncodesFields.detr : EncodesFields.Statement (.detr) :=
  encodesFields_of_mem _ (by show 0x33#8 ∈ legalOpcodes; decide)

theorem EncodesFields.dtk (b : BitVec 16) : EncodesFields.Statement (.dtk b) :=
  encodesFields_of_mem _ (by show 0x40#8 ∈ legalOpcodes; decide)

theorem EncodesFields.dts : EncodesFields.Statement (.dts) :=
  encodesFields_of_mem _ (by show 0x41#8 ∈ legalOpcodes; decide)

theorem EncodesFields.fski (a : BitVec 8) : EncodesFields.Statement (.fski a) :=
  encodesFields_of_mem _ (by show 0x50#8 ∈ legalOpcodes; decide)

theorem EncodesFields.fskm : EncodesFields.Statement (.fskm) :=
  encodesFields_of_mem _ (by show 0x51#8 ∈ legalOpcodes; decide)

theorem EncodesFields.fskd (b : BitVec 16) : EncodesFields.Statement (.fskd b) :=
  encodesFields_of_mem _ (by show 0x52#8 ∈ legalOpcodes; decide)

theorem EncodesFields.pski (a : BitVec 8) : EncodesFields.Statement (.pski a) :=
  encodesFields_of_mem _ (by show 0x60#8 ∈ legalOpcodes; decide)

theorem EncodesFields.pskm : EncodesFields.Statement (.pskm) :=
  encodesFields_of_mem _ (by show 0x61#8 ∈ legalOpcodes; decide)

theorem EncodesFields.pskd (b : BitVec 16) : EncodesFields.Statement (.pskd b) :=
  encodesFields_of_mem _ (by show 0x62#8 ∈ legalOpcodes; decide)

theorem EncodesFields.firt (b : BitVec 16) : EncodesFields.Statement (.firt b) :=
  encodesFields_of_mem _ (by show 0x63#8 ∈ legalOpcodes; decide)

theorem EncodesFields.firr (b : BitVec 16) : EncodesFields.Statement (.firr b) :=
  encodesFields_of_mem _ (by show 0x64#8 ∈ legalOpcodes; decide)

theorem EncodesFields.mape (a : BitVec 8) : EncodesFields.Statement (.mape a) :=
  encodesFields_of_mem _ (by show 0x65#8 ∈ legalOpcodes; decide)

theorem EncodesFields.mapd (a : BitVec 8) : EncodesFields.Statement (.mapd a) :=
  encodesFields_of_mem _ (by show 0x66#8 ∈ legalOpcodes; decide)

theorem EncodesFields.scri : EncodesFields.Statement (.scri) :=
  encodesFields_of_mem _ (by show 0x70#8 ∈ legalOpcodes; decide)

theorem EncodesFields.scre (a : BitVec 8) : EncodesFields.Statement (.scre a) :=
  encodesFields_of_mem _ (by show 0x71#8 ∈ legalOpcodes; decide)

theorem EncodesFields.scrd (a : BitVec 8) : EncodesFields.Statement (.scrd a) :=
  encodesFields_of_mem _ (by show 0x72#8 ∈ legalOpcodes; decide)

theorem EncodesFields.timi (a : BitVec 8) (b : BitVec 16) : EncodesFields.Statement (.timi a b) :=
  encodesFields_of_mem _ (by show 0x80#8 ∈ legalOpcodes; decide)

theorem EncodesFields.tims (a : BitVec 8) : EncodesFields.Statement (.tims a) :=
  encodesFields_of_mem _ (by show 0x81#8 ∈ legalOpcodes; decide)

theorem EncodesFields.bqi : EncodesFields.Statement (.bqi) :=
  encodesFields_of_mem _ (by show 0x90#8 ∈ legalOpcodes; decide)

theorem EncodesFields.bqp (a : BitVec 8) (b : BitVec 16) : EncodesFields.Statement (.bqp a b) :=
  encodesFields_of_mem _ (by show 0x91#8 ∈ legalOpcodes; decide)

theorem EncodesFields.bqg (a : BitVec 8) : EncodesFields.Statement (.bqg a) :=
  encodesFields_of_mem _ (by show 0x92#8 ∈ legalOpcodes; decide)

theorem EncodesFields.ffst : EncodesFields.Statement (.ffst) :=
  encodesFields_of_mem _ (by show 0x93#8 ∈ legalOpcodes; decide)

theorem EncodesFields.ffcl : EncodesFields.Statement (.ffcl) :=
  encodesFields_of_mem _ (by show 0x94#8 ∈ legalOpcodes; decide)

end Sys2Proof.Laws
end

