-- ==== Sys2Proof/Laws/Samples.lean ====
section
/-! SUPPORT. Laws/Samples.lean: what one sample of a unit depends on and reports. The units read neither the
scheduler's registers nor the sample buffers, so a datapump's sample is a direct command's; and the event a sample
returns is the change of FCD or of PH. -/

namespace Sys2Proof.Machine

/-! ### The terms of the statements, field by field -/

@[simp] theorem State.parked_sched_dp (s : State) : s.parked.sched.dp = .none := rfl
@[simp] theorem State.parked_osc (s : State) : s.parked.osc = s.osc := rfl
@[simp] theorem State.parked_sreg (s : State) : s.parked.sreg = s.sreg := rfl
@[simp] theorem State.parked_evt (s : State) : s.parked.evt = s.evt := rfl
@[simp] theorem State.parked_det (s : State) : s.parked.det = s.det := rfl
@[simp] theorem State.parked_fsk (s : State) : s.parked.fsk = s.fsk := rfl
@[simp] theorem State.parked_psk (s : State) : s.parked.psk = s.psk := rfl
@[simp] theorem State.parked_neg (s : State) : s.parked.neg = s.neg := rfl
@[simp] theorem State.parked_scr (s : State) : s.parked.scr = s.scr := rfl
@[simp] theorem State.parked_bq (s : State) : s.parked.bq = s.bq := rfl
@[simp] theorem Sched.released_dp (c : Sched) : c.released.dp = .none := rfl
@[simp] theorem Sched.released_lt (c : Sched) : c.released.lt = c.lt := rfl
@[simp] theorem Sched.released_dir (c : Sched) : c.released.dir = c.dir := rfl
@[simp] theorem State.sampled_inbuf (t : State) (b y : BitVec 16) (s : State) :
    (t.sampled b y s).inbuf = s.inbuf.write 0 b := rfl
@[simp] theorem State.sampled_outbuf (t : State) (b y : BitVec 16) (s : State) :
    (t.sampled b y s).outbuf = s.outbuf.write 0 y := rfl

/-! ### The events of a sample -/

/-- CD is FCD going up, LOST is FCD going down, and nothing else is an event (43_symbol_timing_fsk.md R179). -/
theorem carrierUpdate_event (energy : Int) (f : Fsk) :
    ((carrierUpdate energy f).1 = .cd ↔ f.fcd = false ∧ (carrierUpdate energy f).2.fcd = true) ∧
    ((carrierUpdate energy f).1 = .lost ↔ f.fcd = true ∧ (carrierUpdate energy f).2.fcd = false) := by
  by_cases hp : 32768 < energy
  · by_cases hc : f.cdon.toNat * 800 ≤ f.fcdcnt + 1 <;> cases h : f.fcd <;> simp [carrierUpdate, h, hp, hc]
  · by_cases hc : f.cdoff.toNat * 800 ≤ f.fcdcnt + 1 <;> cases h : f.fcd <;> simp [carrierUpdate, h, hp, hc]

/-- DATA is PH entering DATA, FAIL is PH entering FAILED, and a run is only counted in RAW and SCRAMBLED
(46_psk_negotiation.md R242). -/
theorem negCount_event (ok : Bool) (r : RunRule) (dir : Direction) (n : Neg) (h : n.ph = .raw ∨ n.ph = .scrambled) :
    ((negCount ok r dir n).1 = .data ↔ (negCount ok r dir n).2.ph = .data) ∧
    ((negCount ok r dir n).1 = .fail ↔ (negCount ok r dir n).2.ph = .failed) ∧
    ((negCount ok r dir n).2.ph = n.ph ∨ (negCount ok r dir n).2.ph = .scrambled ∨
      (negCount ok r dir n).2.ph = .data ∨ (negCount ok r dir n).2.ph = .failed) := by
  have hp : (negEarly dir (negTally ok n)).ph = n.ph := by
    unfold negEarly negTally; cases ok <;> simp only [if_true, Bool.false_eq_true, if_false] <;> split <;> rfl
  rcases h with h | h
  all_goals
    simp only [negCount]
    split
    · simp [negRestart, h]
    · simp only [negJudge]
      split
      · split
        · simp only [negSucceed]; split <;> simp_all
        · split <;> simp_all
      · simp_all

end Sys2Proof.Machine
end

