-- ==== Sys2Proof/Tests/Slice0.lean ====
section
/-! SUPPORT. Tests/Slice0.lean: the model's own tests. Expected values are the worked examples of the command rules
and the vectors of 95_test_vectors.md, or hand calculation from the rule named. -/

set_option maxRecDepth 8000

open Sys2Proof Sys2Proof.Machine

namespace Sys2Proof.Tests

/-! ### Helpers -/

/-- The state after a command, `s` where it does not answer a next state. -/
def after (i : Instr) (s : State) : State :=
  match exec i s with
  | .next t => t
  | .fault _ => s
  | .refused _ => s

/-- The response word of a command. -/
def answer (i : Instr) (s : State) : Option Word :=
  match exec i s with
  | .next t => t.resp
  | .fault _ => none
  | .refused _ => none

/-- The response to the next host input. -/
def stepAnswer (s : State) : Option Word :=
  match step s with
  | .next t => t.resp
  | .fault _ => none
  | .refused _ => none

/-- The reset state. -/
abbrev idle : State := State.reset

/-- The reset state with datapump `d` running and a line timer of `lt`. -/
def running (d : Datapump) (lt : Nat) : State :=
  { State.reset with sched := ⟨d, .dp d, false, .originator, false, true, lt⟩ }

/-- The reset state with one oscillator preset. -/
def preset (i : Fin 12) (phase inc : BitVec 12) : State :=
  { State.reset with osc := State.reset.osc.set i.val ⟨phase, inc⟩ i.isLt }

/-- A FIFO holding one byte. -/
def oneByte (b : Byte) : Fifo := ⟨1, 0, [(0, b)]⟩

/-- A full FIFO of zero bytes. -/
def fullFifo : Fifo := ⟨255, 0, []⟩

/-- `s` with a detector window of `wcnt` samples and a budget of `tmo`. -/
def listening (wcnt tmo : Nat) (s : State) : State :=
  { s with det := { s.det with wcnt := wcnt, tmo := tmo } }

/-- The dialer with the dial string `5` in state `st`, DTREM `rem`. -/
def dialling (st : DialState) (rem : Nat) : State :=
  { running .dialer 0 with dial := ⟨st, 0, 2, 1, [(0, 0x35)]⟩, dtrem := rem }

/-! ### WellFormed refuses an ill-formed term of each check, and takes the limit -/

theorem test_ill_formed_s_index : Instr.wellFormed (.wrs 16 0) = false ∧ Instr.wellFormed (.wrs 15 0) = true := by decide
theorem test_ill_formed_s_index_read : Instr.wellFormed (.rds 16) = false ∧ Instr.wellFormed (.rds 15) = true := by decide
theorem test_ill_formed_control_index : Instr.wellFormed (.wrc 7 0) = false ∧ Instr.wellFormed (.wrc 6 0) = true := by decide
theorem test_ill_formed_control_index_read : Instr.wellFormed (.rdc 255) = false ∧ Instr.wellFormed (.rdc 0) = true := by decide
theorem test_ill_formed_oscillator_index : Instr.wellFormed (.oscp 12 0) = false ∧ Instr.wellFormed (.oscp 11 0) = true := by decide
theorem test_ill_formed_block_count_zero : Instr.wellFormed (.proc 0) = false ∧ Instr.wellFormed (.proc 1) = true := by decide
theorem test_ill_formed_block_count_high : Instr.wellFormed (.proc 257) = false ∧ Instr.wellFormed (.proc 256) = true := by decide
theorem test_ill_formed_rate_zero : Instr.wellFormed (.timi 1 0) = false ∧ Instr.wellFormed (.timi 1 1) = true := by decide
theorem test_ill_formed_rate_high : Instr.wellFormed (.timi 1 8001) = false ∧ Instr.wellFormed (.timi 1 8000) = true := by decide
theorem test_ill_formed_bit_count_zero : Instr.wellFormed (.bqp 0 0) = false ∧ Instr.wellFormed (.bqp 1 0) = true := by decide
theorem test_ill_formed_bit_count_high : Instr.wellFormed (.bqg 17) = false ∧ Instr.wellFormed (.bqg 16) = true := by decide
theorem test_ill_formed_key : Instr.wellFormed (.dtk 0x61) = false ∧ Instr.wellFormed (.dtk 0x41) = true := by decide

/-! ### Decoding: one word of every command, bit by bit from its row of the opcode table (30_encoding.md R80, R86),
with a = 10100101 and b = 0011110010010110 even where the command ignores them (R83) -/

theorem test_decode_nop : decode 0b00000000101001010011110010010110 = .ok .nop := by decide
theorem test_decode_reset : decode 0b00000001101001010011110010010110 = .ok .reset := by decide
theorem test_decode_wrs : decode 0b00000010101001010011110010010110 = .ok (.wrs 0xA5 0x3C96) := by decide
theorem test_decode_rds : decode 0b00000011101001010011110010010110 = .ok (.rds 0xA5) := by decide
theorem test_decode_wrc : decode 0b00000100101001010011110010010110 = .ok (.wrc 0xA5 0x3C96) := by decide
theorem test_decode_rdc : decode 0b00000101101001010011110010010110 = .ok (.rdc 0xA5) := by decide
theorem test_decode_rdst : decode 0b00000110101001010011110010010110 = .ok .rdst := by decide
theorem test_decode_rdev : decode 0b00000111101001010011110010010110 = .ok .rdev := by decide
theorem test_decode_dialc : decode 0b00001000101001010011110010010110 = .ok (.dialc 0x3C96) := by decide
theorem test_decode_dialx : decode 0b00001001101001010011110010010110 = .ok .dialx := by decide
theorem test_decode_orig : decode 0b00001010101001010011110010010110 = .ok .orig := by decide
theorem test_decode_answ : decode 0b00001011101001010011110010010110 = .ok .answ := by decide
theorem test_decode_hup : decode 0b00001100101001010011110010010110 = .ok .hup := by decide
theorem test_decode_wrin : decode 0b00001101101001010011110010010110 = .ok (.wrin 0xA5 0x3C96) := by decide
theorem test_decode_rdout : decode 0b00001110101001010011110010010110 = .ok (.rdout 0xA5) := by decide
theorem test_decode_proc : decode 0b00001111101001010011110010010110 = .ok (.proc 0x3C96) := by decide
theorem test_decode_step : decode 0b00010000101001010011110010010110 = .ok (.step 0x3C96) := by decide
theorem test_decode_txch : decode 0b00010001101001010011110010010110 = .ok (.txch 0x3C96) := by decide
theorem test_decode_rxch : decode 0b00010010101001010011110010010110 = .ok .rxch := by decide
theorem test_decode_oscp : decode 0b00100000101001010011110010010110 = .ok (.oscp 0xA5 0x3C96) := by decide
theorem test_decode_osci : decode 0b00100001101001010011110010010110 = .ok (.osci 0xA5 0x3C96) := by decide
theorem test_decode_osca : decode 0b00100010101001010011110010010110 = .ok (.osca 0xA5) := by decide
theorem test_decode_oscc : decode 0b00100011101001010011110010010110 = .ok (.oscc 0xA5) := by decide
theorem test_decode_oscs : decode 0b00100100101001010011110010010110 = .ok (.oscs 0xA5) := by decide
theorem test_decode_oscr : decode 0b00100101101001010011110010010110 = .ok (.oscr 0xA5) := by decide
theorem test_decode_deti : decode 0b00110000101001010011110010010110 = .ok .deti := by decide
theorem test_decode_dett : decode 0b00110001101001010011110010010110 = .ok (.dett 0xA5 0x3C96) := by decide
theorem test_decode_dets : decode 0b00110010101001010011110010010110 = .ok (.dets 0x3C96) := by decide
theorem test_decode_detr : decode 0b00110011101001010011110010010110 = .ok .detr := by decide
theorem test_decode_dtk : decode 0b01000000101001010011110010010110 = .ok (.dtk 0x3C96) := by decide
theorem test_decode_dts : decode 0b01000001101001010011110010010110 = .ok .dts := by decide
theorem test_decode_fski : decode 0b01010000101001010011110010010110 = .ok (.fski 0xA5) := by decide
theorem test_decode_fskm : decode 0b01010001101001010011110010010110 = .ok .fskm := by decide
theorem test_decode_fskd : decode 0b01010010101001010011110010010110 = .ok (.fskd 0x3C96) := by decide
theorem test_decode_pski : decode 0b01100000101001010011110010010110 = .ok (.pski 0xA5) := by decide
theorem test_decode_pskm : decode 0b01100001101001010011110010010110 = .ok .pskm := by decide
theorem test_decode_pskd : decode 0b01100010101001010011110010010110 = .ok (.pskd 0x3C96) := by decide
theorem test_decode_firt : decode 0b01100011101001010011110010010110 = .ok (.firt 0x3C96) := by decide
theorem test_decode_firr : decode 0b01100100101001010011110010010110 = .ok (.firr 0x3C96) := by decide
theorem test_decode_mape : decode 0b01100101101001010011110010010110 = .ok (.mape 0xA5) := by decide
theorem test_decode_mapd : decode 0b01100110101001010011110010010110 = .ok (.mapd 0xA5) := by decide
theorem test_decode_scri : decode 0b01110000101001010011110010010110 = .ok .scri := by decide
theorem test_decode_scre : decode 0b01110001101001010011110010010110 = .ok (.scre 0xA5) := by decide
theorem test_decode_scrd : decode 0b01110010101001010011110010010110 = .ok (.scrd 0xA5) := by decide
theorem test_decode_timi : decode 0b10000000101001010011110010010110 = .ok (.timi 0xA5 0x3C96) := by decide
theorem test_decode_tims : decode 0b10000001101001010011110010010110 = .ok (.tims 0xA5) := by decide
theorem test_decode_bqi : decode 0b10010000101001010011110010010110 = .ok .bqi := by decide
theorem test_decode_bqp : decode 0b10010001101001010011110010010110 = .ok (.bqp 0xA5 0x3C96) := by decide
theorem test_decode_bqg : decode 0b10010010101001010011110010010110 = .ok (.bqg 0xA5) := by decide
theorem test_decode_ffst : decode 0b10010011101001010011110010010110 = .ok .ffst := by decide
theorem test_decode_ffcl : decode 0b10010100101001010011110010010110 = .ok .ffcl := by decide

/-- E2, 30_encoding.md R87: the first illegal opcode, on the port. -/
theorem test_illegal_word : stepAnswer { idle with port := [.command 0x13000000] } = some 0x81000000 := by decide

/-- 30_encoding.md R91: `OSCI 0, 357` through the table's numbering and the fetch. -/
theorem test_fetch_word : decodeTableWord 32 0x21000165 = some (.osci 0 357) ∧
    stepAnswer (idle.withFetchWord 32 0x22000000) = some 0 := by decide

/-! ### One step of every command -/

/-- R307 -/
theorem test_nop : answer .nop (running .fsk 5) = some 0 := by decide
/-- R308 -/
theorem test_reset : (after .reset { running .fsk 5 with evt := 0x7FF }).evt = 0 ∧ (after .reset (running .fsk 5)).sched.dp = .none := by decide
/-- E4 -/
theorem test_wrs : (after (.wrs 8 0x1234) idle).sreg[8] = 0x34 := by decide
/-- E3 -/
theorem test_wrs_range : answer (.wrs 16 0) (running .psk 1) = some 0x83000000 := by decide
/-- E5 -/
theorem test_rds : answer (.rds 2) idle = some 43 := by decide
/-- E3 -/
theorem test_rds_range : answer (.rds 16) idle = some 0x83000000 := by decide
/-- E4 -/
theorem test_wrc : (after (.wrc 3 0xFFFF) idle).ctl.detfrq[0] = 0xFFF := by decide
/-- R303: BUSY is tested before RANGE, and IEN is writable in active mode -/
theorem test_wrc_busy : answer (.wrc 9 1) (running .dialer 0) = some 0x82000000 ∧ answer (.wrc 1 5) (running .dialer 0) = some 0 := by decide
/-- E4 -/
theorem test_rdc : answer (.rdc 0) (after (.wrc 0 7) idle) = some 3 := by decide
/-- E3 -/
theorem test_rdc_range : answer (.rdc 7) idle = some 0x83000000 := by decide
/-- R311 -/
theorem test_rdst : answer .rdst (after .orig idle) = some 0x209 := by decide
/-- R312 -/
theorem test_rdst_answerer : answer .rdst (after .answ idle) = some 0x29B := by decide
/-- R312 -/
theorem test_rdev : answer .rdev { idle with evt := 0x220 } = some 0x220 ∧ (after .rdev { idle with evt := 0x220 }).evt = 0 := by decide
/-- E6 -/
theorem test_dialc : answer (.dialc 0x31) { idle with dial := { idle.dial with diallen := 63 } } = some 64 ∧ answer (.dialc 0x31) { idle with dial := { idle.dial with diallen := 64 } } = some 0x85000000 := by decide
/-- D5 -/
theorem test_dialc_busy : answer (.dialc 0x31) (running .dialer 0) = some 0x82000000 := by decide
/-- R310 -/
theorem test_dialx : (after .dialx { idle with dial := { idle.dial with diallen := 5 } }).dial.diallen = 0 := by decide
/-- R311, R32: TMO is S6 * 8000 -/
theorem test_orig : answer .orig idle = some 1 ∧ (after .orig idle).det.tmo = 16000 := by decide
/-- R311 -/
theorem test_orig_busy : answer .orig (running .fsk 1) = some 0x82000000 := by decide
/-- R312, R32: LT is S7 * 8000 -/
theorem test_answ : answer .answ idle = some 3 ∧ (after .answ idle).sched.lt = 240000 := by decide
/-- R312 -/
theorem test_answ_reserved : answer .answ { idle with ctl := { idle.ctl with mode := 2 } } = some 0 ∧ (after .answ { idle with ctl := { idle.ctl with mode := 2 } }).evt = 0x220 := by decide
/-- R313 -/
theorem test_hup : (after .hup (running .psk 5)).sched.dp = .none ∧ (after .hup (running .psk 5)).evt = 0x200 := by decide
/-- E4: -100 -/
theorem test_wrin : ((after (.wrin 2 0xFF9C) idle).inbuf.read 2).toInt = -100 := by decide
/-- R315 -/
theorem test_rdout : answer (.rdout 3) { idle with outbuf := [(3, 0x8001)] } = some 0x8001 := by decide
/-- R316, by hand: two samples of budget in a block of four; E3 -/
theorem test_proc : answer (.proc 4) (listening 0 2 (running .detector 0)) = some 0x1002 ∧
    answer (.proc 256) idle = some 0 ∧ answer (.proc 257) idle = some 0x83000000 := by decide
/-- R317 and R144: the first sample of a digit is 16383, p = 1; R317, R298: the line timer has expired, p = 0, sw = 1 -/
theorem test_step : answer (.step 0) (dialling .dial 1600) = some 0x13FFF ∧
    answer (.step 0) (running .fsk 0) = some 0x20000 := by decide
/-- E6 -/
theorem test_txch : answer (.txch 0x31) { idle with txfifo := fullFifo } = some 0x85000000 := by decide
/-- R269 -/
theorem test_txch_stores : (after (.txch 0x141) idle).txfifo = oneByte 0x41 := by decide
/-- R267 -/
theorem test_rxch : answer .rxch { idle with rxfifo := oneByte 0x41 } = some 0x141 := by decide
/-- R270 -/
theorem test_rxch_empty : answer .rxch idle = some 0 := by decide
/-- O3 -/
theorem test_oscp : (after (.oscp 0 0xFFFF) idle).osc[0] = ⟨4095, 0⟩ := by decide
/-- O1 -/
theorem test_osci : (after (.osci 0 357) idle).osc[0] = ⟨0, 357⟩ := by decide
/-- E3 -/
theorem test_osci_range : answer (.osci 12 357) idle = some 0x83000000 := by decide
/-- O2: the phase wraps -/
theorem test_osca : answer (.osca 11) (preset 11 4000 200) = some 104 := by decide
/-- O1 -/
theorem test_oscc : answer (.oscc 0) (preset 0 357 357) = some 0x6D47 := by decide
/-- R109: a negative value -/
theorem test_oscc_negative : answer (.oscc 0) (preset 0 2048 0) = some 0x8001 := by decide
/-- O1 -/
theorem test_oscs : answer (.oscs 0) (preset 0 357 357) = some 0x42A5 := by decide
/-- R110: a negative value -/
theorem test_oscs_negative : answer (.oscs 0) (preset 0 3072 0) = some 0x8001 := by decide
/-- O1 -/
theorem test_oscr : answer (.oscr 0) (preset 0 357 357) = some 0x165165 := by decide
/-- R127 -/
theorem test_deti : (after .deti { idle with ctl := { idle.ctl with detfrq := #v[0, 845, 0, 0] } }).osc[2] = ⟨0, 845⟩ := by decide
/-- R128 -/
theorem test_dett : (after (.dett 1 0) idle).det.tmo = 65536 := by decide
/-- R129: no budget -/
theorem test_dets : answer (.dets 7999) idle = some 3 := by decide
/-- R124, by hand: asr(7999, 4) * 32767 -/
theorem test_dets_correlates : (after (.dets 7999) (listening 0 1 idle)).det.di[0] = 499 * 32767 := by decide
/-- T4 -/
theorem test_detr : answer .detr (listening 232 0 (running .fsk 1)) = some 0xE80 := by decide
/-- D1 -/
theorem test_dtk : (after (.dtk 0x35) idle).osc[5] = ⟨0, 394⟩ ∧ (after (.dtk 0x35) idle).osc[6] = ⟨0, 684⟩ := by decide
/-- D3 -/
theorem test_dtk_badkey : answer (.dtk 0x61) idle = some 0x84000000 := by decide
/-- D1: the second sample of key 5 -/
theorem test_dts : answer .dts (after .dts (after (.dtk 0x35) idle)) = some 0x2A45 := by decide
/-- D2 -/
theorem test_dts_done : answer .dts idle = some 0x10000 := by decide
/-- K6 -/
theorem test_fski : (after (.fski 1) idle).osc[7] = ⟨0, 845⟩ ∧ (after (.fski 1) idle).osc[9] = ⟨0, 604⟩ := by decide
/-- K3: the second sample of mark -/
theorem test_fskm : answer .fskm (after .fskm idle) = some 0x2DF1 := by decide
/-- K3: the start bit of a byte -/
theorem test_fskm_space : (after .fskm { idle with txfifo := oneByte 0 }).osc[7] = ⟨604, 604⟩ := by decide
/-- K5: carrier at once with S9 = 0 -/
theorem test_fskd : answer (.fskd 16383) (after (.fski 1) { idle with sreg := idle.sreg.set 9 0 }) = some 6 := by decide
/-- Q2 -/
theorem test_pski : (after (.pski 1) idle).osc[10] = ⟨0, 1229⟩ ∧ (after (.pski 1) idle).osc[11] = ⟨0, 614⟩ := by decide
/-- Q3: the second sample; R198: the guard symbol steps the phase by a quarter turn -/
theorem test_pskm : answer .pskm (after .pskm idle) = some 0xFFAA ∧
    (after .pskm idle).osc[10] = ⟨1638, 614⟩ := by decide
/-- Q6 -/
theorem test_pskd : answer (.pskd 0) idle = some 2 := by decide
/-- Q6: the fourteenth sample -/
theorem test_pskd_emits : answer (.pskd 0) { idle with tim := ⟨1, 1, 0, 7800, 600⟩ } = some 3 := by decide
/-- Q4 -/
theorem test_firt : answer (.firt 16384) idle = some 106 := by decide
/-- Q4: -27, rounded down from -26.5 -/
theorem test_firr : answer (.firr 16384) idle = some 0xFFE5 := by decide
/-- Q1 -/
theorem test_mape : answer (.mape 0) (running .psk 1) = some 1 ∧ answer (.mape 3) idle = some 3 := by decide
/-- Q1 -/
theorem test_mapd : answer (.mapd 1) (running .psk 1) = some 0 ∧ answer (.mapd 2) idle = some 2 := by decide
/-- R231 -/
theorem test_scri : (after .scri { idle with scr := ⟨5, 1, 6, 2⟩ }).scr = ⟨0, 0, 0, 0⟩ := by decide
/-- R234: the forced inversion after 64 ones -/
theorem test_scre : answer (.scre 1) { idle with scr := ⟨0x1FFFF, 64, 0, 0⟩ } = some 0 ∧ (after (.scre 1) { idle with scr := ⟨0x1FFFF, 64, 0, 0⟩ }).scr.sones = 0 := by decide
/-- R226: the tap 14 back -/
theorem test_scre_tap : answer (.scre 1) { idle with scr := ⟨0x2000, 0, 0, 0⟩ } = some 0 := by decide
/-- R234: the inversion undone -/
theorem test_scrd : answer (.scrd 0) { idle with scr := ⟨0, 0, 0x1FFFF, 64⟩ } = some 1 := by decide
/-- R226: the tap 17 back, and the register fed with the line bit -/
theorem test_scrd_tap : answer (.scrd 0) { idle with scr := ⟨0, 0, 0x10000, 3⟩ } = some 1 ∧ (after (.scrd 0) { idle with scr := ⟨0, 0, 0x10000, 3⟩ }).scr = ⟨0, 0, 0, 0⟩ := by decide
/-- R169 -/
theorem test_timi : (after (.timi 1 300) idle).tim = ⟨1, 1, 0, 0, 300⟩ := by decide
/-- E3 -/
theorem test_timi_range : answer (.timi 1 8001) idle = some 0x83000000 ∧ answer (.timi 1 0) idle = some 0x83000000 := by decide
/-- R170: the twenty-seventh step -/
theorem test_tims : answer (.tims 1) { idle with tim := ⟨1, 1, 0, 7800, 300⟩ } = some 3 := by decide
/-- R170: the fourteenth differing step -/
theorem test_tims_transition : answer (.tims 0) { idle with tim := ⟨1, 0, 3900, 3900, 300⟩ } = some 1 := by decide
/-- R266 -/
theorem test_bqi : (after .bqi { idle with bq := ⟨1, 2, 1, 1⟩ }).bq = ⟨0, 0, 0, 0⟩ := by decide
/-- R267; R267: FRAMING -/
theorem test_bqp : answer (.bqp 10 0x105) idle = some 1 ∧ (after (.bqp 10 0x105) idle).rxfifo = oneByte 0x41 ∧
    (after (.bqp 10 0x104) idle).evt = 8 ∧ (after (.bqp 10 0x104) idle).rxfifo = oneByte 0x41 := by decide
/-- R268 -/
theorem test_bqg : answer (.bqg 10) { idle with txfifo := oneByte 0x41 } = some 0x105 := by decide
/-- F2 -/
theorem test_bqg_filler : answer (.bqg 4) idle = some 0xF ∧ (after (.bqg 4) idle).bq.txc = 0 := by decide
/-- E6 -/
theorem test_ffst : answer .ffst { running .fsk 1 with txfifo := fullFifo } = some 0xFF00 := by decide
/-- R272: the cells stay -/
theorem test_ffcl : (after .ffcl { idle with rxfifo := oneByte 0x41 }).rxfifo = ⟨0, 0, [(0, 0x41)]⟩ := by decide

/-! ### Witnesses: for every statement with hypotheses, concrete states and operands that meet all of them, clause by
clause, at the limits of the ranges -/

theorem witness_illegal_opcodes : ({ idle with port := [.command 0x13000000] } : State).port = .command 0x13000000 :: [] ∧
    [0x13, 0x1F, 0x26, 0x2F, 0x34, 0x3F, 0x42, 0x4F, 0x53, 0x5F, 0x67, 0x6F, 0x73, 0x7F, 0x82, 0x8F, 0x95, 0xFF].all
      (fun o => ((BitVec.ofNat 32 (o * 0x1000000)) >>> 24).toNat == o) = true := by decide
theorem witness_step_command : ({ idle with port := [.command 0x06FFFFFF] } : State).port = .command 0x06FFFFFF :: [] ∧ decode 0x06FFFFFF = .ok .rdst ∧
    0xFFFFFFFF < 2 ^ 32 ∧ decodeTableWord 32 0x94FFFFFF = some .ffcl := by decide
theorem witness_step_idle_and_reset : idle.port = [] ∧ ({ idle with port := [.resetInput] } : State).port = .resetInput :: [] := by decide
theorem witness_busy_active : failsBusy .orig (running .fsk 1) ∧ failsBusy (.osca 200) (running .psk 1) ∧ failsBusy (.wrc 9 0) (running .detector 1) := ⟨.inl ⟨.inr (.inr (.inl rfl)), by decide⟩, .inl ⟨.inl rfl, by decide⟩, .inl ⟨.inr (.inl ⟨9, 0, rfl, by decide⟩), by decide⟩⟩
theorem witness_busy_dialer : failsBusy .dialx (running .dialer 0) ∧ failsBusy (.dialc 0) (running .dialer 0) := ⟨.inr ⟨.inr rfl, rfl⟩, .inr ⟨.inl ⟨0, rfl⟩, rfl⟩⟩
theorem witness_range : ¬ failsBusy (.osca 12) idle ∧ failsRange (.osca 12) ∧ failsRange (.wrs 16 0) ∧ failsRange (.rdc 7) ∧ failsRange (.proc 257) ∧
    failsRange (.timi 0 8001) ∧ failsRange (.bqg 0) := 
  ⟨by simp [failsBusy, State.reset], .inl ⟨12, by decide, .inr (.inr (.inl rfl))⟩, .inr (.inl ⟨16, by decide, .inl ⟨0, rfl⟩⟩),
    .inr (.inr (.inl ⟨7, by decide, .inr rfl⟩)), .inr (.inr (.inr (.inl ⟨257, by decide, rfl⟩))),
    .inr (.inr (.inr (.inr (.inl ⟨0, 8001, by decide, rfl⟩)))), .inr (.inr (.inr (.inr (.inr ⟨0, by decide, .inr rfl⟩))))⟩
theorem witness_badkey : ¬ failsBusy (.dtk 0x78) idle ∧ ¬ failsRange (.dtk 0x78) ∧ failsBadkey (.dtk 0x78) := 
  ⟨by simp [failsBusy, State.reset], by simp [failsRange], ⟨0x78, rfl, by decide⟩⟩
theorem witness_full : ¬ failsBusy (.txch 0) idle ∧ ¬ failsRange (.txch 0) ∧ ¬ failsBadkey (.txch 0) ∧ failsFull (.txch 0) { idle with txfifo := fullFifo } := 
  ⟨by simp [failsBusy, State.reset], by simp [failsRange], by simp [failsBadkey], .inl ⟨⟨0, rfl⟩, by decide⟩⟩
theorem witness_no_error : ¬ failsBusy .nop idle ∧ ¬ failsRange .nop ∧ ¬ failsBadkey .nop ∧ ¬ failsFull .nop idle := 
  ⟨by simp [failsBusy, State.reset], by simp [failsRange], by simp [failsBadkey], by simp [failsFull]⟩
theorem witness_undecodable : ({ idle with port := [.command 0xFFFFFFFF] } : State).port = .command 0xFFFFFFFF :: [] ∧
    decode 0xFFFFFFFF = .error (.illegalOpcode 0xFF) := by decide
/-- A good state, an active one, with a command presented: the hypotheses of the five invariants together. -/
def good : State := { running .fsk 5 with port := [.command 0x0F000001] }
theorem witness_invariants : good.MemoryCanonical ∧ good.RegisterRanges ∧ good.WidthsHold ∧ good.NegotiationCounted ∧ good.Scheduled := ⟨by decide, by decide, by decide, by decide, by decide⟩
theorem witness_invariants_step : ∃ t : State, step good = .next t := ⟨_, rfl⟩
theorem witness_events : Instr.nop ≠ .rdev ∧ Instr.nop ≠ .reset := by decide
theorem witness_interrupt_mask : (∀ b, Instr.orig ≠ .wrc 1 b) ∧ Instr.orig ≠ .rdc 1 ∧ Instr.orig ≠ .reset := ⟨(by intro b h; cases h), by decide, by decide⟩
theorem witness_parameters : (∃ t : State, exec .orig idle = .next t ∧ t.sched.dp ≠ idle.sched.dp) ∧ Instr.orig ≠ .reset := ⟨⟨_, rfl, by decide⟩, by decide⟩
theorem witness_direct : isDirect .fskm = true ∧ (running .fsk 1).sched.dp ≠ .none ∧ idle.sched.dp = .none := by decide
theorem witness_oscillator : idle.sched.dp = .none ∧ (running .psk 1).sched.dp ≠ .none ∧ 11 < (12 : BitVec 8).toNat ∧ (11 : BitVec 8).toNat = (11 : Fin 12).val := by decide
theorem witness_oscillator_wraps : idle.sched.dp = .none ∧ (11 : BitVec 8).toNat = (11 : Fin 12).val ∧ 1 ≤ 1 := by decide
theorem witness_s_register : 15 < (16 : BitVec 8).toNat ∧ (15 : BitVec 8).toNat = (15 : Fin 16).val ∧ (0 : BitVec 8).toNat = (0 : Fin 16).val := by decide
theorem witness_control_register : (2 : BitVec 8) ≠ 1 ∧ (running .fsk 1).sched.dp ≠ .none ∧ idle.sched.dp = .none ∧ 6 < (7 : BitVec 8).toNat ∧ (0 : BitVec 8).toNat = 0 ∧
    (1 : BitVec 8).toNat = 1 ∧ (2 : BitVec 8).toNat = 2 ∧ (3 : BitVec 8).toNat = 3 + (0 : Fin 4).val ∧ (6 : BitVec 8).toNat = 3 + (3 : Fin 4).val := by decide
theorem witness_originate : (running .fsk 1).sched.dp ≠ .none ∧ idle.sched.dp = .none := by decide
theorem witness_answer_modes : idle.sched.dp = .none ∧ idle.ctl.mode = 0 ∧ ({ idle with ctl := { idle.ctl with mode := 1 } } : State).ctl.mode = 1 ∧
    ({ idle with ctl := { idle.ctl with mode := 2 } } : State).ctl.mode = 2 ∧ ({ idle with ctl := { idle.ctl with mode := 3 } } : State).ctl.mode = 3 := by decide
theorem witness_dial_string : idle.MemoryCanonical ∧ (running .dialer 0).sched.dp = .dialer ∧ idle.sched.dp ≠ .dialer ∧ idle.dial.diallen ≠ 64 := by decide
theorem witness_dial_string_limits : ({ idle with dial := { idle.dial with diallen := 64 } } : State).MemoryCanonical ∧
    ({ idle with dial := { idle.dial with diallen := 63 } } : State).dial.diallen ≠ 64 := by decide
theorem witness_sample_cells : ({ idle with inbuf := [(255, 1)] } : State).MemoryCanonical ∧ (254 : Nat) ≠ (255 : BitVec 8).toNat := by decide
theorem witness_proc : ((0 : BitVec 16).toNat < 1 ∨ 256 < (0 : BitVec 16).toNat) ∧ ((257 : BitVec 16).toNat < 1 ∨ 256 < (257 : BitVec 16).toNat) ∧
    1 ≤ (1 : BitVec 16).toNat ∧ (256 : BitVec 16).toNat ≤ 256 ∧ idle.MemoryCanonical ∧ idle.sched.dp = .none ∧ idle.sched.pend = false := by decide
theorem witness_proc_switches : (process 4 (listening 0 2 (running .detector 0))).switched = true ∧ (process 4 (listening 0 2 (running .detector 0))).produced = 2 ∧
    (process 4 (listening 0 4 (running .detector 0))).switched = false := by decide
theorem witness_proc_in_order : 1 ≤ (255 : BitVec 16).toNat ∧ (255 : BitVec 16).toNat < 256 ∧ (listening 0 3 (running .detector 0)).MemoryCanonical ∧
    (listening 0 3 (running .detector 0)).sched.pend = false ∧ (listening 0 3 (running .detector 0)).sched.dp = .detector ∧
    (running .fsk 1).sched.dp = .fsk ∧ (running .psk 1).sched.dp = .psk ∧ (running .fsk 1).sched.pend = false ∧
    answer (.proc 4) (listening 0 3 (running .detector 0)) = some 0x1003 ∧ answer (.proc 2) (listening 0 3 (running .detector 0)) = some 0x20002 := by decide
theorem witness_expired : ((running .fsk 0).sched.dp = .fsk ∧ (running .fsk 0).sched.connect = false ∧ (running .fsk 0).sched.lt = 0) ∧
    ((running .psk 0).sched.dp = .psk ∧ (running .psk 0).sched.lt = 0) ∧ ((running .detector 0).sched.dp = .detector ∧ (running .detector 0).det.tmo = 0) := by decide
theorem witness_line_timer : (running .psk 1).sched.dp = .psk ∧ (running .psk 1).sched.connect = false ∧ 0 < (running .psk 1).sched.lt ∧ (running .psk 1).sched.pend = false ∧
    ({ running .psk 0 with sched := { (running .psk 0).sched with connect := true } } : State).sched.connect = true := by decide
/-- The low two bits of the value DETS answers: the result of one detector step. -/
def dets (b : BitVec 16) (s : State) : Option (BitVec 2) := (answer (.dets b) s.parked).map (·.extractLsb' 0 2)
/-- `s` one sample before the end of a window with all the energy at the second frequency, DETMASK `mask`, MODE `mode`. -/
def hearing (mask : BitVec 4) (mode : BitVec 2) (s : State) : State :=
  { s with
    ctl := ⟨mode, 0, mask, #v[0, 0, 0, 0]⟩
    det := { s.det with wcnt := 255, tmo := 1, di := #v[0, 1000000000, 0, 0], de := 2000000 } }
theorem witness_detector_sample : (hearing 2 0 (running .detector 0)).MemoryCanonical ∧ (hearing 2 0 (running .detector 0)).sched.pend = false ∧
    0 < (hearing 2 0 (running .detector 0)).det.tmo ∧ dets 0 (hearing 2 0 (running .detector 0)) = some 2 ∧ dets 0 (hearing 2 1 (running .detector 0)) = some 2 ∧
    dets 0 (hearing 2 3 (running .detector 0)) = some 2 ∧ dets 0 (hearing 13 0 (running .detector 0)) = some 1 ∧ dets 0 (listening 254 1 (running .detector 0)) = some 0 := by decide
theorem witness_dialer_wait : (listening 0 1 (dialling .wait 0)).MemoryCanonical ∧ (listening 0 1 (dialling .wait 0)).sched.dp = .dialer ∧ (listening 0 1 (dialling .wait 0)).sched.pend = false ∧
    (listening 0 1 (dialling .wait 0)).dial.dlstate = .wait ∧ dets 0 (listening 0 1 (dialling .wait 0)) = some 0 ∧ dets 0 (hearing 2 0 (dialling .wait 0)) = some 2 := by decide
/-- FCD before and after one sample of input `b` through FSKM and FSKD. -/
def fcds (b : BitVec 16) (s : State) : Bool × Bool := (s.fsk.fcd, (after (.fskd b) (after .fskm s.parked)).fsk.fcd)
/-- The FSK datapump with carrier `on` and both captured times 0. -/
def carrying (on : Bool) : State := { running .fsk 1 with fsk := { State.reset.fsk with fcd := on, cdon := 0, cdoff := 0 } }
theorem witness_fsk_sample : (carrying true).MemoryCanonical ∧ (carrying true).sched.dp = .fsk ∧ (carrying true).sched.pend = false ∧ 0 < (carrying true).sched.lt ∧
    fcds 0 (carrying false) = (false, false) ∧ fcds 0x3FFF (carrying false) = (false, true) ∧ fcds 0 (carrying true) = (true, false) := by decide
/-- R297: a hit hands over to FSK; R299: LOST ends the call -/
theorem test_step_hit : answer (.step 0) (hearing 2 0 (running .detector 0)) = some 0x30000 ∧ (after (.step 0) (hearing 2 0 (running .detector 0))).evt = 0x240 ∧
    (after (.step 0) (hearing 2 0 (running .detector 0))).sched.dp = .fsk ∧
    answer (.step 0) (carrying true) = some 0x33FFF ∧ (after (.step 0) (carrying true)).evt = 0x300 ∧ (after (.step 0) (carrying true)).sched.dp = .none := by decide
/-- The PSK datapump with negotiation registers `n` and the timing unit about to emit. -/
def shaking (n : Neg) : State := { running .psk 1 with neg := n, tim := ⟨1, 1, 0, 7800, 600⟩ }
/-- PH after one sample of input 0 through PSKM and PSKD. -/
def phased (s : State) : Phase := (after (.pskd 0) (after .pskm s.parked)).neg.ph
theorem witness_psk_sample : (shaking ⟨.raw, .raw, 0, 0, 0, 96, false, 0⟩).MemoryCanonical ∧ (shaking ⟨.raw, .raw, 0, 0, 0, 96, false, 0⟩).sched.dp = .psk ∧
    (shaking ⟨.raw, .raw, 0, 0, 0, 96, false, 0⟩).sched.pend = false ∧ 0 < (shaking ⟨.raw, .raw, 0, 0, 0, 96, false, 0⟩).sched.lt ∧
    phased (shaking ⟨.raw, .raw, 0, 0, 0, 96, false, 0⟩) = .raw ∧ phased (shaking ⟨.raw, .raw, 95, 95, 0, 96, false, 0⟩) = .scrambled ∧
    phased (shaking ⟨.scrambled, .scrambled, 161, 155, 6, 162, false, 0⟩) = .data ∧ phased (shaking ⟨.scrambled, .scrambled, 323, 300, 7, 324, true, 0⟩) = .failed := by decide
theorem witness_dialer_tone : (dialling .dial 1).MemoryCanonical ∧ (dialling .dial 1).sched.dp = .dialer ∧ (dialling .dial 1).sched.pend = false ∧
    (dialling .dial 1).dial.dlstate = .dial ∧ 0 < (dialling .dial 1).dtrem ∧ 0 < min (1 : BitVec 16).toNat (dialling .dial 1).dtrem := by decide
theorem witness_dialer_fetch_key : (dialling .dial 0).sched.dp = .dialer ∧ (dialling .dial 0).sched.pend = false ∧ (dialling .dial 0).dial.dlstate = .dial ∧ (dialling .dial 0).dtrem = 0 ∧
    (dialling .dial 0).dial.dlpos < (dialling .dial 0).dial.diallen ∧ dtmfDecode ((dialling .dial 0).dial.dialstr.read 0) = some (1, 1) := by decide
/-- The dialer at the end of a wait with the byte `c` next, `n` bytes valid. -/
def fetching (c : Byte) (n : Nat) : State := { running .dialer 0 with dial := ⟨.wait, 0, 2, n, [(0, c)]⟩ }
theorem witness_dialer_fetch_pause : (fetching 0x77 1).dial.dlstate = .wait ∧ (fetching 0x77 1).det.tmo = 0 ∧ (fetching 0x77 1).dial.dlpos < (fetching 0x77 1).dial.diallen ∧
    (fetching 0x77 1).dial.dialstr.read 0 = 0x77 ∧ (fetching 0x2C 1).dial.dialstr.read 0 = 0x2C := by decide
theorem witness_dialer_fetch_end : (fetching 0x35 0).dial.diallen ≤ (fetching 0x35 0).dial.dlpos ∧ (fetching 0x78 1).dial.dlpos < (fetching 0x78 1).dial.diallen ∧
    dtmfDecode ((fetching 0x78 1).dial.dialstr.read 0) = none ∧ (fetching 0x78 1).dial.dialstr.read 0 ≠ 0x77 ∧ (fetching 0x78 1).dial.dialstr.read 0 ≠ 0x2C := by decide
theorem witness_dialer_wait_blocks : (listening 0 4 (dialling .wait 0)).MemoryCanonical ∧ (listening 0 4 (dialling .wait 0)).sched.dp = .dialer ∧ (listening 0 4 (dialling .wait 0)).sched.pend = false ∧
    (listening 0 4 (dialling .wait 0)).dial.dlstate = .wait ∧ (4 : BitVec 16).toNat ≤ (listening 0 4 (dialling .wait 0)).det.tmo ∧
    (listening 0 4 (dialling .wait 0)).det.tmo < (5 : BitVec 16).toNat ∧ 1 ≤ (5 : BitVec 16).toNat ∧ (5 : BitVec 16).toNat ≤ 256 := by decide
/-- R149, by hand: the wait ends inside the block, p = 2, then the key; R61, R70: each sample reads its own cell of INBUF, asr(16, 4) * 32767 * 2 -/
theorem test_proc_wait : answer (.proc 4) (listening 0 2 (dialling .wait 0)) = some 0x10002 ∧ (after (.proc 4) (listening 0 2 (dialling .wait 0))).dial.dlstate = .dial ∧
    (after (.proc 3) { listening 0 3 (running .detector 0) with inbuf := [(1, 16), (2, 16)] }).det.di[0] = 2 * 32767 ∧
    (after (.proc 3) { listening 0 3 (running .detector 0) with inbuf := [(0, 16), (1, 0x20)] }).det.de = 5 := by decide
theorem witness_detector_setup : (running .fsk 1).sched.dp ≠ .none ∧ idle.sched.dp = .none ∧ (listening 511 0 idle).det.wcnt < 512 := by decide
theorem witness_detector_step : (listening 255 0 idle).sched.dp = .none ∧ (listening 255 0 idle).det.tmo = 0 ∧ 0 < (listening 254 1 idle).det.tmo ∧
    (listening 254 1 idle).det.wcnt ≠ 255 ∧ (listening 255 1 idle).det.wcnt = 255 := by decide
theorem witness_detector_budget : idle.sched.dp = .none ∧ [(7 : BitVec 16)].length ≤ (listening 0 1 idle).det.tmo := by decide
theorem witness_detector_silence : (List.replicate 256 (0xFFF0 : BitVec 16)).length = 256 ∧ 256 ≤ (listening 0 256 idle).det.tmo ∧ (listening 0 256 idle).det.wcnt = 0 ∧
    (listening 0 256 idle).det.de = 0 ∧ -16 ≤ (0xFFF0 : BitVec 16).toInt ∧ (15 : BitVec 16).toInt ≤ 15 ∧
    ∀ b ∈ List.replicate 256 (0xFFF0 : BitVec 16), -16 ≤ b.toInt ∧ b.toInt ≤ 15 := 
  ⟨by decide, by decide, by decide, by decide, by decide, by decide, fun b h => by rw [List.eq_of_mem_replicate h]; decide⟩
theorem witness_dtmf : (running .fsk 1).sched.dp ≠ .none ∧ idle.sched.dp = .none ∧ dtmfDecode ((0x178 : BitVec 16).setWidth 8) = none ∧
    dtmfDecode ((0x144 : BitVec 16).setWidth 8) = some (3, 3) ∧ idle.dtrem = 0 ∧ 0 < ({ idle with dtrem := 1 } : State).dtrem := by decide
/-- The reset state with the timing unit at `t`. -/
def timed (t : Tim) : State := { State.reset with tim := t }
theorem witness_timing_commands : (running .fsk 1).sched.dp ≠ .none ∧ idle.sched.dp = .none ∧ (0 : BitVec 16).toNat < 1 ∧ 8000 < (8001 : BitVec 16).toNat ∧ 1 ≤ (1 : BitVec 16).toNat ∧ (8000 : BitVec 16).toNat ≤ 8000 := by decide
theorem witness_timing_forwarded : (0 : BitVec 2) ≠ (timed ⟨1, 0, 3900, 0, 300⟩).tim.tcur ∧ 8000 ≤ 2 * ((timed ⟨1, 0, 3900, 0, 300⟩).tim.tacc + 300) := by decide
theorem witness_timing_reemitted : (1 : BitVec 2) = (timed ⟨1, 1, 0, 7700, 300⟩).tim.tcur ∧ 8000 ≤ min ((timed ⟨1, 1, 0, 7700, 300⟩).tim.bacc + 300) 65535 := by decide
theorem witness_timing_nothing : 2 * ((timed ⟨1, 0, 300, 65535, 300⟩).tim.tacc + 300) < 8000 ∧ (timed ⟨1, 0, 300, 65535, 300⟩).tim.tacc + 300 ≠ 0 ∧ min (7699 + 300) 65535 < 8000 := by decide
theorem witness_timing_clock : (timed ⟨1, 1, 0, 0, 300⟩).sched.dp = .none ∧ ((1 : BitVec 8).setWidth 2 : BitVec 2) = (timed ⟨1, 1, 0, 0, 300⟩).tim.tcur ∧
    27 = (8000 * 1 + (300 - 1)) / 300 ∧ 1 ≤ 8000 ∧ 8000 ≤ 8000 ∧ 1 = (8000 * 1 + (8000 - 1)) / 8000 := by decide
theorem witness_timing_clock_quiet : ∀ k, 1 ≤ k → 26 ≠ (8000 * k + (300 - 1)) / 300 := by intro k hk; omega
theorem witness_timing_glitch : ((0 : BitVec 8).setWidth 2 : BitVec 2) ≠ (timed ⟨1, 1, 0, 0, 300⟩).tim.tcur ∧ ((1 : BitVec 8).setWidth 2 : BitVec 2) = (timed ⟨1, 1, 0, 0, 300⟩).tim.tcur ∧
    (timed ⟨1, 1, 0, 0, 300⟩).tim.tacc = 0 ∧ 2 * (13 * 300) < 8000 ∧ 8000 ≤ 2 * ((13 + 1) * 300) ∧ 1 ≤ 13 ∧ 2 * (0 * 8000) < 8000 ∧ 8000 ≤ 2 * ((0 + 1) * 8000) := by decide
theorem witness_modem_direction : (running .psk 1).sched.dp ≠ .none ∧ idle.sched.dp = .none ∧ (0xFE : BitVec 8).getLsbD 0 = false ∧ (0x01 : BitVec 8).getLsbD 0 = true := by decide
theorem witness_fsk_modulate : ({ idle with fsk := { idle.fsk with ftxacc := 7999 } } : State).fsk.ftxacc < 8000 ∧ 8000 ≤ idle.fsk.ftxacc ∧ idle.sched.dp = .none ∧ (running .fsk 1).sched.dp ≠ .none := by decide
/-- The FSK registers with carrier `on` and both captured times `ds`. -/
def carrier (on : Bool) (ds : BitVec 8) : Fsk := { State.reset.fsk with fcd := on, cdon := ds, cdoff := ds }
theorem witness_carrier_declared : (carrier false 1).fcdcnt = 0 ∧ (carrier false 1).fcd = false ∧ (∀ y ∈ List.replicate 799 (32769 : Int), 32768 < y) ∧
    (List.replicate 799 (32769 : Int)).length < (carrier false 1).cdon.toNat * 800 ∧
    (carrier false 1).cdon.toNat * 800 ≤ (List.replicate 799 (32769 : Int)).length + 1 ∧ (32768 : Int) < 32769 ∧ (32768 : Int) ≤ 32768 := 
  ⟨by decide, by decide, fun y h => by rw [List.eq_of_mem_replicate h]; decide, by decide,
    by decide, by decide, by decide⟩
theorem witness_carrier_at_once : (carrier false 0).fcd = false ∧ ([] : List Int) = [] ∧ (carrier false 0).cdon.toNat * 800 ≤ ([] : List Int).length + 1 := by decide
theorem witness_carrier_lost : (carrier true 1).fcdcnt = 0 ∧ (carrier true 1).fcd = true ∧ (∀ y ∈ List.replicate 799 (32768 : Int), y ≤ 32768) ∧
    (List.replicate 799 (32768 : Int)).length < (carrier true 1).cdoff.toNat * 800 ∧
    (carrier true 1).cdoff.toNat * 800 ≤ (List.replicate 799 (32768 : Int)).length + 1 ∧ (carrier true 0).cdoff.toNat * 800 ≤ ([] : List Int).length + 1 := 
  ⟨by decide, by decide, fun y h => by rw [List.eq_of_mem_replicate h], by decide,
    by decide, by decide⟩
/-- The reset state with negotiation registers `n`. -/
def negotiating (n : Neg) : State := { State.reset with neg := n }
theorem witness_psk_modulate : idle.neg.txm = .raw ∧ (negotiating ⟨.scrambled, .scrambled, 0, 0, 0, 162, false, 0⟩).neg.txm = .scrambled ∧
    (negotiating ⟨.data, .data, 0, 0, 0, 162, false, 1⟩).neg.txm = .data ∧ 0 < (negotiating ⟨.data, .data, 0, 0, 0, 162, false, 1⟩).neg.thold ∧
    (negotiating ⟨.data, .data, 0, 0, 0, 162, false, 0⟩).neg.thold = 0 := by decide
/-- R199, R226: the more significant bit of the dibit meets the tap first -/
theorem test_pskm_order : (after .pskm { negotiating ⟨.scrambled, .scrambled, 0, 0, 0, 162, false, 0⟩ with scr := ⟨0x2000, 0, 0, 0⟩ }).scr.sr = 0x8001 ∧
    (after .pskm { negotiating ⟨.scrambled, .scrambled, 0, 0, 0, 162, false, 0⟩ with scr := ⟨0x2000, 0, 0, 0⟩ }).osc[10] = ⟨614, 614⟩ := by decide
theorem witness_psk_demodulate : idle.sched.dp = .none ∧ (running .psk 1).sched.dp ≠ .none ∧ (0 : Int) ≤ 0 ∧ (-1 : Int) < 0 := by decide
theorem witness_quarter_turns : (0 : Int) < 1 ∧ ((0 : Int) ≠ 0 ∨ (1 : Int) ≠ 0) := by decide
theorem witness_filter_bounds : Within (-32768) 32767 (Vector.replicate 13 (-32768)) ∧ Within (-16384) 16384 (Vector.replicate 13 16384) := by decide
theorem witness_negotiation_raw : idle.neg = ⟨.raw, .raw, 0, 0, 0, 96, false, 0⟩ ∧ 95 < 96 ∧ (2 : BitVec 2) ≠ 0 ∧ (negotiating ⟨.raw, .raw, 15, 15, 0, 96, false, 0⟩).neg.ngood < 16 ∧
    16 ≤ (negotiating ⟨.raw, .raw, 94, 16, 0, 96, false, 0⟩).neg.ngood ∧ (negotiating ⟨.raw, .raw, 94, 16, 0, 96, false, 0⟩).neg.nrun + 1 < 96 ∧
    (negotiating ⟨.failed, .raw, 192, 100, 8, 192, true, 0⟩).neg.ph = .failed := by decide
theorem witness_negotiation_judged : (negotiating ⟨.raw, .raw, 95, 88, 7, 96, false, 0⟩).neg.ph = .raw ∧ 96 ≤ 95 + 1 ∧ 7 < 8 ∧ (negotiating ⟨.raw, .raw, 15, 15, 0, 96, false, 0⟩).neg.ngood < 16 ∧
    (negotiating ⟨.scrambled, .scrambled, 161, 155, 6, 162, false, 0⟩).neg.ph = .scrambled ∧ 162 ≤ 161 + 1 ∧ 6 + 1 < 8 ∧ 160 + 1 < 162 ∧ 8 ≤ 7 + 1 ∧ 16 ≤ 155 ∧
    (negotiating ⟨.scrambled, .raw, 323, 300, 8, 324, true, 0⟩).neg.nretry = true ∧ (negotiating ⟨.raw, .raw, 95, 16, 8, 96, false, 0⟩).neg.nretry = false ∧
    (negotiating ⟨.data, .data, 0, 0, 0, 162, false, 0⟩).neg.ph = .data ∧ (negotiating ⟨.failed, .raw, 192, 100, 8, 192, true, 0⟩).neg.ph = .failed := by decide
theorem witness_negotiation_expected : (scrDecDibit 3 idle.scr).1 = 3 ∧ (scrDecDibit 0 idle.scr).1 ≠ 3 ∧ answer (.scrd 1) idle = some 1 := by decide
/-- R242, R245: the answerer commits at the forty-eighth expected symbol -/
theorem test_early_commit : (negPut 3 { negotiating ⟨.scrambled, .raw, 47, 47, 0, 162, false, 0⟩ with psk := { idle.psk with pdir := .answerer } }).2.neg.txm = .scrambled ∧
    (negPut 3 { negotiating ⟨.scrambled, .raw, 46, 46, 0, 162, false, 0⟩ with psk := { idle.psk with pdir := .answerer } }).2.neg.txm = .raw := by decide
theorem witness_scrambler : idle.sched.dp = .none ∧ (running .psk 1).sched.dp ≠ .none ∧ (⟨0x1FFFF, 64, 0, 0⟩ : Scr).sones = 64 ∧ (⟨0, 63, 0, 0⟩ : Scr).sones ≠ 64 := by decide
theorem witness_inverse_law : (⟨0x155, 64, 0x155, 64⟩ : Scr).sr = (⟨0x155, 64, 0x155, 64⟩ : Scr).dr ∧ (⟨0x155, 64, 0x155, 64⟩ : Scr).sones = (⟨0x155, 64, 0x155, 64⟩ : Scr).dones := by decide
theorem witness_synchronises : 17 ≤ (List.replicate 17 false).length ∧ false ∈ (scrambleAll (List.replicate 17 false) ⟨0x155, 3, 0, 0⟩).1 := by decide
theorem witness_fifo_full : ({ idle with txfifo := fullFifo } : State).MemoryCanonical ∧ ({ idle with txfifo := fullFifo } : State).txfifo.contents.length = 255 := by decide
theorem witness_fifo_bytes : ({ idle with rxfifo := oneByte 0x41 } : State).MemoryCanonical ∧ idle.txfifo.contents.length ≠ 255 ∧ idle.rxfifo.contents = [] ∧
    ({ idle with rxfifo := oneByte 0x41 } : State).rxfifo.contents = 0x41 :: [] ∧ (1 : Nat) ≠ idle.txfifo.head.toNat := by decide
theorem witness_bit_queues : (running .fsk 1).sched.dp ≠ .none ∧ idle.sched.dp = .none ∧ (0 : BitVec 8).toNat < 1 ∧ 16 < (17 : BitVec 8).toNat ∧ 1 ≤ (1 : BitVec 8).toNat ∧
    (16 : BitVec 8).toNat ≤ 16 ∧ idle.bq.rxc ≤ 9 := by decide
/-- The reset state with bit queues `q`. -/
def queued (q : BitQ) : State := { State.reset with bq := q }
theorem witness_receive_idle : idle.MemoryCanonical ∧ idle.bq.rxb.toNat < 2 ^ idle.bq.rxc ∧ idle.bq.rxc = 0 ∧ (0xFFFF : BitVec 16).getLsbD 0 = true ∧ (0xFFFE : BitVec 16).getLsbD 0 = false := by decide
/-- R267, R263: two bytes in sixteen bits -/
theorem test_bqp_sum : answer (.bqp 16 0xF803) (queued ⟨15, 5, 0, 0⟩) = some 2 := by decide
theorem witness_receive_held : (queued ⟨127, 8, 0, 0⟩).bq.rxb.toNat < 2 ^ (queued ⟨127, 8, 0, 0⟩).bq.rxc ∧ 0 < (queued ⟨127, 8, 0, 0⟩).bq.rxc ∧ (queued ⟨127, 8, 0, 0⟩).bq.rxc < 9 ∧
    (queued ⟨127, 8, 0, 0⟩).bq.rxb.getLsbD ((queued ⟨127, 8, 0, 0⟩).bq.rxc - 1) = false := by decide
theorem witness_receive_frame : (queued ⟨255, 9, 0, 0⟩).bq.rxb.toNat < 2 ^ (queued ⟨255, 9, 0, 0⟩).bq.rxc ∧ (queued ⟨255, 9, 0, 0⟩).bq.rxc = 9 ∧
    (queued ⟨255, 9, 0, 0⟩).bq.rxb.getLsbD ((queued ⟨255, 9, 0, 0⟩).bq.rxc - 1) = false ∧ idle.rxfifo.contents.length ≠ 255 ∧ fullFifo.contents.length = 255 := by decide
theorem witness_transmit : (queued ⟨0, 0, 0x1FFFFFF, 25⟩).bq.txb.toNat < 2 ^ (queued ⟨0, 0, 0x1FFFFFF, 25⟩).bq.txc ∧ (queued ⟨0, 0, 0x1FFFFFF, 25⟩).bq.txc ≤ 25 ∧
    0 < (queued ⟨0, 0, 0x1FFFFFF, 25⟩).bq.txc ∧ idle.bq.txc = 0 ∧ idle.txfifo.contents = [] ∧ (oneByte 0x41).contents = 0x41 :: [] ∧ 1 ≤ 1 ∧ 16 ≤ 16 := by decide
theorem witness_round_trip : ({ idle with txfifo := oneByte 0x41 } : State).sched.dp = .none ∧ ({ idle with txfifo := oneByte 0x41 } : State).MemoryCanonical ∧
    ({ idle with txfifo := oneByte 0x41 } : State).bq = ⟨0, 0, 0, 0⟩ ∧ ({ idle with txfifo := oneByte 0x41 } : State).txfifo.contents = [0x41] ∧ idle.rxfifo.contents.length < 255 := by decide
theorem witness_loopback : idle.rxfifo.contents = [] ∧ 10 * ({ idle with txfifo := oneByte 0x41 } : State).txfifo.contents.length ≤ ([(0 : Fin 16), 8].map fun n => n.val + 1).sum ∧
    idle.MemoryCanonical ∧ idle.bq = ⟨0, 0, 0, 0⟩ ∧ idle.sched.dp = .none := by decide

end Sys2Proof.Tests
end

section
/-! Bounds.lean: the bounds of 10_state.md (R36 to R49), register group by register group: each procedure of the
units keeps each of them. `KeepsBounds` collects the groups, so that one lemma per procedure serves both
`RegisterRangesStay` and `RegisterWidthsSuffice`. -/

namespace Sys2Proof.Machine

/-! ### The groups R49 and R263 bound that have no name in Safety.lean -/

/-- The dial string's length and position; `d` is DP (R49). -/
def Dial.InRange (l : Dial) (d : Datapump) : Prop :=
  l.diallen ≤ 64 ∧ l.dlpos ≤ 64 ∧ (d = .dialer → l.dlpos ≤ l.diallen)

/-- The run counters of the scrambler and the descrambler (R49). -/
def Scr.InRange (c : Scr) : Prop := c.sones ≤ 64 ∧ c.dones ≤ 64

/-- The receive bit buffer holds RXC bits, at most nine, the oldest of them a start bit (R49, R263). -/
def BitQ.RxInRange (q : BitQ) : Prop :=
  q.rxc ≤ 9 ∧ q.rxb.toNat < 2 ^ q.rxc ∧ (0 < q.rxc → q.rxb.getLsbD (q.rxc - 1) = false)

/-- The transmit bit buffer holds TXC bits, at most 25 (R49). -/
def BitQ.TxInRange (q : BitQ) : Prop := q.txc ≤ 25 ∧ q.txb.toNat < 2 ^ q.txc

/-- The symbol rate (R49). -/
def Tim.RateInRange (t : Tim) : Prop := 1 ≤ t.trate ∧ t.trate ≤ 8000

/-- `RegisterRanges`, group by group. -/
theorem registerRanges_iff (s : State) :
    s.RegisterRanges ↔ s.dial.InRange s.sched.dp ∧ s.det.wcnt ≤ 255 ∧ s.dtrem ≤ 1600 ∧ s.neg.thold ≤ 240 ∧
      s.scr.InRange ∧ s.bq.RxInRange ∧ s.bq.TxInRange ∧ s.tim.RateInRange := by
  unfold State.RegisterRanges Dial.InRange Scr.InRange BitQ.RxInRange BitQ.TxInRange Tim.RateInRange
  tauto

/-! ### Delay lines and vectors -/

/-- A range of a vector's values, index by index. -/
theorem within_iff {n : Nat} (lo hi : Int) (d : Vector Int n) :
    Within lo hi d ↔ ∀ k : Fin n, lo ≤ d[k] ∧ d[k] ≤ hi := by
  constructor
  · intro h k
    exact h _ (by simp)
  · intro h x hx
    obtain ⟨k, hk, rfl⟩ := List.getElem_of_mem hx
    exact h ⟨k, by simpa using hk⟩

/-- A line of zeros is within every range around zero. -/
theorem within_replicate_zero {n : Nat} {lo hi : Int} (hlo : lo ≤ 0) (hhi : 0 ≤ hi) :
    Within lo hi (Vector.replicate n 0) :=
  (within_iff lo hi _).2 fun k => by simp [hlo, hhi]

/-- A shift keeps a range the new value has. -/
theorem within_shiftIn {n : Nat} {lo hi x : Int} {d : Vector Int n} (hx : lo ≤ x ∧ x ≤ hi) (hd : Within lo hi d) :
    Within lo hi (shiftIn x d) :=
  shiftIn_forall (fun y => lo ≤ y ∧ y ≤ hi) x d hx hd

/-! ### Tone detector (41_tone_detector.md) -/

/-- A cleared window has no sample and all sums zero (R123). -/
theorem clearWindow_det (s : State) : (clearWindow s).det =
    { s.det with di := Vector.replicate 4 0, dq := Vector.replicate 4 0, de := 0, wcnt := 0 } := by
  have set_zeros (d : Vector Int 4) : (((d.set 0 0).set 1 0).set 2 0).set 3 0 = Vector.replicate 4 0 := by
    ext k hk
    interval_cases k <;> simp
  simp [clearWindow, forSlots, clearSlot, set_zeros]

theorem loadSlots_det (s : State) : (forSlots loadSlotInc s).det = s.det := rfl

/-- What `det_init` leaves of the detector's registers (R123). -/
theorem detInit_det (s : State) : (detInit s).det =
    { s.det with di := Vector.replicate 4 0, dq := Vector.replicate 4 0, de := 0, wcnt := 0, detected := 0 } := by
  have h : (detInit s).det = { (clearWindow (forSlots loadSlotInc s)).det with detected := 0 } := rfl
  rw [h, clearWindow_det, loadSlots_det]

/-- What `window_end` leaves of the detector's registers (R125). -/
theorem windowEnd_det (s : State) : (windowEnd s).2.det =
    { s.det with di := Vector.replicate 4 0, dq := Vector.replicate 4 0, de := 0, wcnt := 0,
                 detected := windowMask s.det } :=
  clearWindow_det _

/-- A detector with an empty window is within its bounds if its budget is. -/
theorem bounded_of_cleared (d : Detector) (h : d.tmo < 2 ^ 24) :
    Detector.Bounded { d with di := Vector.replicate 4 0, dq := Vector.replicate 4 0, de := 0, wcnt := 0 } := by
  refine ⟨?_, ?_, ?_, ?_, h⟩
  · exact within_replicate_zero (by simp) (by simp)
  · exact within_replicate_zero (by simp) (by simp)
  · simp
  · simp

/-- The state in which slot `k` is correlated with a sample `v` that arrives in `s`: the slots go in order (R124). -/
def beforeSlot (v : Int) (s : State) : Fin 4 → State :=
  ![s, correlateSlot v 0 s, correlateSlot v 1 (correlateSlot v 0 s),
    correlateSlot v 2 (correlateSlot v 1 (correlateSlot v 0 s))]

/-- One sample adds to each sum the product of the scaled sample and a table value (R124). -/
theorem accumulate_sums (v : Int) (s : State) :
    ∃ c q : Fin 4 → Int, (∀ k, (c k).natAbs ≤ 32767 ∧ (q k).natAbs ≤ 32767) ∧
      ∀ k : Fin 4, (accumulate v s).det.di[k] = s.det.di[k] + v * c k ∧
        (accumulate v s).det.dq[k] = s.det.dq[k] + v * q k := by
  refine ⟨fun k => oscCos (slotOsc k) (beforeSlot v s k), fun k => oscSin (slotOsc k) (beforeSlot v s k),
    fun k => ⟨cosAt_natAbs_le _, sinAt_natAbs_le _⟩, ?_⟩
  intro k
  fin_cases k <;> simp [accumulate, forSlots, correlateSlot, beforeSlot, Vector.getElem_set]

/-- The registers of the detector after a sample that the four slots have taken in, the sums aside (R124). -/
theorem accumulate_det (v : Int) (s : State) :
    (accumulate v s).det.de = s.det.de + (v * v).toNat ∧ (accumulate v s).det.wcnt = s.det.wcnt + 1 ∧
      (accumulate v s).det.tmo = s.det.tmo := ⟨rfl, rfl, rfl⟩

/-- A correlation sum of a 12-bit sample grows by at most the amplitude a sample (R36). -/
theorem sum_grows (w : Nat) (a v c : Int) (ha : -(w * (2048 * 32767) : Int) ≤ a ∧ a ≤ w * (2048 * 32767))
    (hv : v.natAbs ≤ 2048) (hc : c.natAbs ≤ 32767) :
    -((w + 1 : Nat) * (2048 * 32767) : Int) ≤ a + v * c ∧ a + v * c ≤ (w + 1 : Nat) * (2048 * 32767) := by
  have h : (v * c).natAbs ≤ 2048 * 32767 := by
    rw [Int.natAbs_mul]
    exact Nat.mul_le_mul hv hc
  omega

/-- One scaled sample keeps the sums and the energy within the bounds of the window, which is a sample longer; the
last sample of a window takes WCNT to 256 (R36, R124). -/
theorem accumulate_bounded (v : Int) (s : State) (hv : v.natAbs ≤ 2048) (h : s.det.Bounded) :
    Within (-((s.det.wcnt + 1 : Nat) * (2048 * 32767) : Int)) ((s.det.wcnt + 1 : Nat) * (2048 * 32767))
        (accumulate v s).det.di ∧
      Within (-((s.det.wcnt + 1 : Nat) * (2048 * 32767) : Int)) ((s.det.wcnt + 1 : Nat) * (2048 * 32767))
        (accumulate v s).det.dq ∧
      (accumulate v s).det.de ≤ (s.det.wcnt + 1) * (2048 * 2048) := by
  obtain ⟨hdi, hdq, hde, -, -⟩ := h
  obtain ⟨c, q, hcq, hsum⟩ := accumulate_sums v s
  refine ⟨(within_iff _ _ _).2 fun k => ?_, (within_iff _ _ _).2 fun k => ?_, ?_⟩
  · rw [(hsum k).1]
    exact sum_grows _ _ _ _ ((within_iff _ _ _).1 hdi k) hv (hcq k).1
  · rw [(hsum k).2]
    exact sum_grows _ _ _ _ ((within_iff _ _ _).1 hdq k) hv (hcq k).2
  · have hvv : (v * v).toNat ≤ 2048 * 2048 := by
      have : (v * v).natAbs ≤ 2048 * 2048 := by
        rw [Int.natAbs_mul]
        exact Nat.mul_le_mul hv hv
      omega
    rw [(accumulate_det v s).1]
    omega

/-- What a detector step does to the detector's registers: nothing without budget, else one sample taken in, the window
ended where it is full, and one sample of the budget (R124, R126). -/
theorem detStep_det (x : Int) (s : State) :
    (s.det.tmo = 0 ∧ (detStep x s).2.det = s.det) ∨
    (s.det.wcnt = 255 ∧
      (detStep x s).2.det = { (windowEnd (accumulate (asr x 4) s)).2.det with tmo := s.det.tmo - 1 }) ∨
    (s.det.wcnt ≠ 255 ∧ (detStep x s).2.det = { (accumulate (asr x 4) s).det with tmo := s.det.tmo - 1 }) := by
  by_cases ht : s.det.tmo = 0
  · exact .inl ⟨ht, by simp [detStep, ht]⟩
  · by_cases hw : s.det.wcnt = 255
    · exact .inr (.inl ⟨hw, by simp [detStep, ht, hw, windowEnd_det, accumulate_det]⟩)
    · exact .inr (.inr ⟨hw, by simp [detStep, ht, hw, accumulate_det]⟩)

/-- A detector step keeps the window's count below its length (R49). -/
theorem detStep_wcnt (x : Int) (s : State) (h : s.det.wcnt ≤ 255) : (detStep x s).2.det.wcnt ≤ 255 := by
  rcases detStep_det x s with ⟨-, hd⟩ | ⟨-, hd⟩ | ⟨hw, hd⟩ <;> rw [hd]
  · exact h
  · simp [windowEnd_det]
  · simp only [accumulate_det]
    omega

/-- A detector step on a 16-bit sample keeps the detector's bounds (R36). -/
theorem detStep_bounded (x : Int) (hx : -32768 ≤ x ∧ x ≤ 32767) (s : State) (h : s.det.Bounded) :
    (detStep x s).2.det.Bounded := by
  have hv : (asr x 4).natAbs ≤ 2048 := by
    have := asr_four_mem x hx
    omega
  have hacc := accumulate_bounded (asr x 4) s hv h
  obtain ⟨-, -, -, hw, htmo⟩ := id h
  rcases detStep_det x s with ⟨-, hd⟩ | ⟨-, hd⟩ | ⟨hne, hd⟩ <;> rw [hd]
  · exact h
  · rw [windowEnd_det]
    exact bounded_of_cleared { (accumulate (asr x 4) s).det with
      detected := windowMask (accumulate (asr x 4) s).det, tmo := s.det.tmo - 1 } (show s.det.tmo - 1 < 2 ^ 24 by omega)
  · obtain ⟨hdi, hdq, hde⟩ := hacc
    exact ⟨hdi, hdq, hde, show s.det.wcnt + 1 ≤ 255 by omega, show s.det.tmo - 1 < 2 ^ 24 by omega⟩

/-! ### Symbol timing (43_symbol_timing_fsk.md section 1) -/

/-- The end of a step changes the bit-duration counter only, which saturates (R167). -/
theorem timPeriod_eq (t : Tim) : ∃ b ≤ 65535, (timPeriod t).2 = { t with bacc := b } := by
  have hmin : min (t.bacc + t.trate) Param.baccMax ≤ 65535 := min_le_right _ _
  rw [timPeriod]
  generalize min (t.bacc + t.trate) Param.baccMax = b at hmin ⊢
  split
  · exact ⟨b - 8000, by omega, rfl⟩
  · exact ⟨b, hmin, rfl⟩

/-- A step keeps the rate (R167). -/
theorem timStep_trate (v : BitVec 2) (t : Tim) : (timStep v t).2.trate = t.trate := by
  have hperiod (u : Tim) : (timPeriod u).2.trate = u.trate := by
    obtain ⟨b, -, hb⟩ := timPeriod_eq u
    rw [hb]
  have hcand : (timCandidate v t).trate = t.trate := by
    unfold timCandidate
    split <;> rfl
  unfold timStep
  split
  · dsimp only
    split
    · exact hcand
    · rw [hperiod, hcand]
  · rw [hperiod]

/-- A step leaves the accumulators within their registers, whatever they held: half a symbol's persistence confirms the
candidate, and the bit-duration counter saturates (R38, R167). -/
theorem timStep_counters (v : BitVec 2) (t : Tim) : (timStep v t).2.tacc < 4000 ∧ (timStep v t).2.bacc ≤ 65535 := by
  unfold timStep
  split
  · dsimp only
    split
    · exact ⟨by simp, by simp⟩
    · rename_i hacc
      obtain ⟨b, hb, he⟩ := timPeriod_eq (timCandidate v t)
      rw [he]
      simp only [Param.fs] at hacc
      exact ⟨by simp only; omega, hb⟩
  · obtain ⟨b, hb, he⟩ := timPeriod_eq { t with tacc := 0, tcand := t.tcur }
    rw [he]
    exact ⟨by simp, hb⟩

theorem timStep_rateInRange (v : BitVec 2) (t : Tim) (h : t.RateInRange) : (timStep v t).2.RateInRange := by
  unfold Tim.RateInRange
  rwa [timStep_trate]

theorem timStep_bounded (v : BitVec 2) (t : Tim) (h : t.Bounded) : (timStep v t).2.Bounded := by
  obtain ⟨-, -, hrate⟩ := h
  obtain ⟨hacc, hbacc⟩ := timStep_counters v t
  exact ⟨by omega, hbacc, timStep_rateInRange v t hrate⟩

theorem timInit_bounded (cur : BitVec 2) (rate : Nat) (h : 1 ≤ rate ∧ rate ≤ 8000) : (timInit cur rate).Bounded :=
  ⟨by simp [timInit], by simp [timInit], h⟩

/-! ### FSK modem (43_symbol_timing_fsk.md section 2) -/

theorem bqTxGet_fsk (n : Nat) (s : State) : (bqTxGet n s).2.fsk = s.fsk := by
  obtain ⟨b, c, x, h⟩ := bqTxGet_frame n s
  rw [h]

/-- What the bit boundary leaves of the FSK registers: the accumulator below a bit time, and the next bit (R177). -/
theorem fskPull_fsk (s : State) :
    ∃ b a, (fskPull s).fsk = { s.fsk with ftxbit := b, ftxacc := a } ∧ (s.fsk.ftxacc ≤ 8299 → a < 8000) := by
  have hfs : Param.fs = 8000 := rfl
  by_cases h : Param.fs ≤ s.fsk.ftxacc
  · refine ⟨(bqTxGet 1 { s with fsk := { s.fsk with ftxacc := s.fsk.ftxacc - Param.fs } }).1.getLsbD 0,
      s.fsk.ftxacc - Param.fs, ?_, by omega⟩
    simp only [fskPull, if_pos h, bqTxGet_fsk]
  · exact ⟨s.fsk.ftxbit, s.fsk.ftxacc, by simp only [fskPull, if_neg h], by omega⟩

/-- A modulator sample keeps the transmit accumulator within its register (R39, R177). -/
theorem fskMod_bounded (s : State) (h : s.fsk.Bounded) : (fskMod s).2.fsk.Bounded := by
  obtain ⟨hacc, hfx, hcnt⟩ := h
  obtain ⟨b, a, hb, ha⟩ := fskPull_fsk s
  have hf : (fskMod s).2.fsk = { (fskPull s).fsk with ftxacc := (fskPull s).fsk.ftxacc + 300 } := rfl
  rw [hf, hb]
  exact ⟨show a + 300 ≤ 8299 by have := ha hacc; omega, hfx, hcnt⟩

/-- The carrier detector writes its decision and its run counter only (R179). -/
theorem carrierUpdate_frame (energy : Int) (f : Fsk) :
    ∃ d n, (carrierUpdate energy f).2 = { f with fcd := d, fcdcnt := n } := by
  unfold carrierUpdate
  dsimp only
  repeat' split
  all_goals exact ⟨_, _, rfl⟩

/-- The carrier detector's run counter stays below the longest carrier time, 255 tenths of a second (R39, R179). -/
theorem carrierUpdate_fcdcnt (energy : Int) (f : Fsk) : (carrierUpdate energy f).2.fcdcnt ≤ 204000 := by
  have hon := f.cdon.isLt
  have hoff := f.cdoff.isLt
  cases hd : f.fcd with
  | true =>
    by_cases hp : 32768 < energy
    · simp [carrierUpdate, hd, hp]
    · by_cases hc : f.cdoff.toNat * 800 ≤ f.fcdcnt + 1
      · simp [carrierUpdate, hd, hp, hc]
      · simp [carrierUpdate, hd, hp, hc]
        omega
  | false =>
    by_cases hp : 32768 < energy
    · by_cases hc : f.cdon.toNat * 800 ≤ f.fcdcnt + 1
      · simp [carrierUpdate, hd, hp, hc]
      · simp [carrierUpdate, hd, hp, hc]
        omega
    · simp [carrierUpdate, hd, hp]

theorem carrierUpdate_bounded (energy : Int) (f : Fsk) (h : f.Bounded) : (carrierUpdate energy f).2.Bounded := by
  obtain ⟨hacc, hfx, -⟩ := h
  have hcnt := carrierUpdate_fcdcnt energy f
  obtain ⟨d, n, he⟩ := carrierUpdate_frame energy f
  rw [he] at hcnt ⊢
  exact ⟨hacc, hfx, hcnt⟩

/-- The state of a demodulator sample before a bit it may emit goes to the receive framer (R178). -/
def fskHeard (x : Int) (s : State) : State :=
  let t := fskShift x s
  { oscAdv 9 (oscAdv 8 t) with
    fsk := (carrierUpdate (fskEnergy 8 t + fskEnergy 9 t) t.fsk).2
    tim := (timStep ((BitVec.ofBool (decide (0 ≤ fskEnergy 8 t - fskEnergy 9 t))).setWidth 2) t.tim).2 }

/-- What a demodulator sample finds: whether TIM emits, and the carrier event (R178). -/
def fskVerdict (x : Int) (s : State) : Bool × CarrierEvent :=
  let t := fskShift x s
  ((timStep ((BitVec.ofBool (decide (0 ≤ fskEnergy 8 t - fskEnergy 9 t))).setWidth 2) t.tim).1,
    (carrierUpdate (fskEnergy 8 t + fskEnergy 9 t) t.fsk).1)

/-- A demodulator sample is its filters, carrier and timing, and then, where TIM emits under a carrier, a bit for the
receive framer (R178). -/
theorem fskDem_eq (x : Int) (s : State) :
    fskDem x s = ((fskVerdict x s).1, (fskVerdict x s).2,
      if (fskVerdict x s).1 && (fskHeard x s).fsk.fcd then
        (bqRxPut 1 ((fskHeard x s).tim.tcur.setWidth 16) (fskHeard x s)).2
      else fskHeard x s) := by
  by_cases h : ((fskVerdict x s).1 && (fskHeard x s).fsk.fcd) = true
  · rw [if_pos h]
    exact if_pos h
  · rw [if_neg h]
    exact if_neg h

/-- The receive filters keep the FSK registers within bounds on a 16-bit sample (R39, R178). -/
theorem fskHeard_bounded (x : Int) (hx : -32768 ≤ x ∧ x ≤ 32767) (s : State) (h : s.fsk.Bounded) :
    (fskHeard x s).fsk.Bounded := by
  obtain ⟨hacc, hfx, hcnt⟩ := h
  exact carrierUpdate_bounded _ _ ⟨hacc, within_shiftIn (asr_four_mem x hx) hfx, hcnt⟩

/-! ### PSK modem (44_psk_modem.md) -/

theorem bqTxGet_psk (n : Nat) (s : State) : (bqTxGet n s).2.psk = s.psk := by
  obtain ⟨b, c, x, h⟩ := bqTxGet_frame n s
  rw [h]

theorem pskGetsym_psk (s : State) : (pskGetsym s).2.psk = s.psk := by
  obtain ⟨h, c, b, n, x, he⟩ := pskGetsym_frame s
  rw [he]

/-- What the symbol boundary leaves of the PSK registers: the accumulator below a symbol time (R198). -/
theorem pskPull_psk (s : State) :
    ∃ a, (pskPull s).psk = { s.psk with psymacc := a } ∧ (s.psk.psymacc ≤ 8599 → a < 8000) := by
  have hfs : Param.fs = 8000 := rfl
  by_cases h : Param.fs ≤ s.psk.psymacc
  · refine ⟨s.psk.psymacc - Param.fs, ?_, by omega⟩
    simp only [pskPull, if_pos h, setPhase_psk, pskGetsym_psk]
  · exact ⟨s.psk.psymacc, by simp only [pskPull, if_neg h], by omega⟩

/-- The carrier of the modulator is a 16-bit value (R198). -/
theorem carrier_mem (p : BitVec 12) : -32768 ≤ asr (cosAt p) 1 ∧ asr (cosAt p) 1 ≤ 32767 := by
  have := cosAt_natAbs_le p
  exact asr_mem _ _ _ 1 (by norm_num; omega) (by norm_num; omega)

/-- A modulator sample keeps the transmit accumulator and the transmit delay line within their registers (R40, R198). -/
theorem pskMod_bounded (s : State) (h : s.psk.Bounded) : (pskMod s).2.psk.Bounded := by
  obtain ⟨hacc, htxd, hrest⟩ := h
  obtain ⟨a, hpull, ha⟩ := pskPull_psk s
  have hmod : (pskMod s).2.psk = { (pskPull s).psk with
      psymacc := (pskPull s).psk.psymacc + 600
      txd := shiftIn (asr (oscCos 10 (pskPull s)) 1) (pskPull s).psk.txd } := rfl
  rw [hmod, hpull]
  exact ⟨show a + 600 ≤ 8599 by have := ha hacc; omega, within_shiftIn (carrier_mem _) htxd, hrest⟩

/-- Four products of a 12-bit sample and a table value (R205). -/
theorem half_natAbs_le (wave : BitVec 12 → Int) (hwave : ∀ p, (wave p).natAbs ≤ 32767) (d : Vector Int 8)
    (hd : Within (-2048) 2047 d) (i : Nat → Nat) (p : Nat → BitVec 12) :
    (sigma 4 fun k => tap d (i k) * wave (p k)).natAbs ≤ 4 * (2048 * 32767) := by
  refine sigma_natAbs_le 4 _ _ fun k _ => ?_
  have htap := tap_forall (fun y => y.natAbs ≤ 2048) d (i k) (by simp) fun y hy => by
    have := hd y hy
    omega
  rw [Int.natAbs_mul]
  exact Nat.mul_le_mul htap (hwave _)

/-- The correlator's output against the reference fits 15 bits and a sign (R40, R205). -/
theorem halves_mem (wave : BitVec 12 → Int) (hwave : ∀ p, (wave p).natAbs ≤ 32767) (d : Vector Int 8)
    (hd : Within (-2048) 2047 d) (p c : BitVec 12) :
    -16384 ≤ asr (halves wave d p c) 15 ∧ asr (halves wave d p c) 15 ≤ 16384 := by
  have hnew := half_natAbs_le wave hwave d hd (fun k => k) fun k => p - BitVec.ofNat 12 k * c
  have hold := half_natAbs_le wave hwave d hd (fun k => 4 + k) fun k => p - BitVec.ofNat 12 (4 + k) * c + 2048
  have hsum : (halves wave d p c).natAbs ≤ 4 * (2048 * 32767) + 4 * (2048 * 32767) :=
    (Int.natAbs_sub_le _ _).trans (Nat.add_le_add hnew hold)
  exact asr_mem _ _ _ 15 (by norm_num; omega) (by norm_num; omega)

/-- The receive filter and the correlator keep the PSK registers within bounds on a 16-bit sample (R40, R205). -/
theorem pskClass_bounded (x : Int) (hx : -32768 ≤ x ∧ x ≤ 32767) (s : State) (h : s.psk.Bounded) :
    (pskClass x s).2.psk.Bounded := by
  obtain ⟨hacc, htxd, hrxd, hpx, hzi, hzq⟩ := h
  have hpx' : Within (-2048) 2047 (shiftIn (asr (firRx x s).1 4) s.psk.px) :=
    within_shiftIn (asr_four_mem _ (sat16_mem _)) hpx
  exact ⟨hacc, htxd, within_shiftIn hx hrxd, hpx', within_shiftIn (halves_mem _ cosAt_natAbs_le _ hpx' _ _) hzi,
    within_shiftIn (halves_mem _ sinAt_natAbs_le _ hpx' _ _) hzq⟩

/-- The state of a demodulator sample before a symbol it may emit goes to the negotiation (R206). -/
def pskHeard (x : Int) (s : State) : State :=
  { (pskClass x s).2 with tim := (timStep (mapS (pskClass x s).1) (pskClass x s).2.tim).2 }

/-- Whether TIM emits a symbol at a demodulator sample (R206). -/
def pskEmits (x : Int) (s : State) : Bool := (timStep (mapS (pskClass x s).1) (pskClass x s).2.tim).1

/-- A demodulator sample is its filters and timing, and then, where TIM emits, a symbol for the negotiation (R206). -/
theorem pskDem_eq (x : Int) (s : State) :
    pskDem x s = (pskEmits x s,
      if pskEmits x s then negPut (pskHeard x s).tim.tcur (pskHeard x s) else (.none, pskHeard x s)) := by
  unfold pskDem pskEmits pskHeard
  dsimp only
  split
  · rename_i h
    rw [h]
  · rename_i h
    rw [eq_false_of_ne_true h]

/-! ### Negotiation and scrambler (46_psk_negotiation.md, 45_scrambler.md) -/

/-- A counted symbol leaves the hold-off as it is or starts it (R242). -/
theorem negCount_thold (ok : Bool) (r : RunRule) (dir : Direction) (n : Neg) :
    (negCount ok r dir n).2.thold = n.thold ∨ (negCount ok r dir n).2.thold = 240 := by
  have htally : (negEarly dir (negTally ok n)).thold = n.thold := by
    have hearly (m : Neg) : (negEarly dir m).thold = m.thold := by
      unfold negEarly
      split <;> rfl
    rw [hearly]
    unfold negTally
    cases ok <;> rfl
  have hsucceed (m : Neg) : (negSucceed dir m).2.thold = m.thold ∨ (negSucceed dir m).2.thold = 240 := by
    unfold negSucceed
    dsimp only
    split
    · exact .inl rfl
    · exact .inr rfl
  unfold negCount
  split
  · exact .inl rfl
  · rw [← htally]
    unfold negJudge
    split
    · split
      · exact hsucceed _
      · split
        · exact .inl rfl
        · exact .inl rfl
    · exact .inl rfl

theorem countOnes_le (ones : Nat) (o : Bool) (h : ones ≤ 64) (hne : ones ≠ 64) : countOnes ones o ≤ 64 := by
  unfold countOnes
  split <;> omega

theorem scrEnc_inRange (d : Bool) (c : Scr) (h : c.InRange) : (scrEnc d c).2.InRange := by
  obtain ⟨hs, hd⟩ := h
  unfold scrEnc
  dsimp only
  split
  · exact ⟨Nat.zero_le _, hd⟩
  · exact ⟨countOnes_le _ _ hs ‹_›, hd⟩

theorem scrDec_inRange (r : Bool) (c : Scr) (h : c.InRange) : (scrDec r c).2.InRange := by
  obtain ⟨hs, hd⟩ := h
  unfold scrDec
  dsimp only
  split
  · exact ⟨hs, Nat.zero_le _⟩
  · exact ⟨hs, countOnes_le _ _ hd ‹_›⟩

theorem scrEncDibit_inRange (d : BitVec 2) (c : Scr) (h : c.InRange) : (scrEncDibit d c).2.InRange :=
  scrEnc_inRange _ _ (scrEnc_inRange _ _ h)

theorem scrDecDibit_inRange (r : BitVec 2) (c : Scr) (h : c.InRange) : (scrDecDibit r c).2.InRange :=
  scrDec_inRange _ _ (scrDec_inRange _ _ h)

/-! ### Framing (47_framing_fifo.md) -/

/-- A value under the mask of `k` bits has `k` bits. -/
theorem and_lowMask_lt (b : BitVec 32) (k : Nat) : (b &&& lowMask k).toNat < 2 ^ k := by
  rw [BitVec.toNat_and]
  refine Nat.and_lt_two_pow _ ?_
  have hmod : (2 ^ k - 1) % 2 ^ 32 ≤ 2 ^ k - 1 := Nat.mod_le _ _
  have hpos := Nat.two_pow_pos k
  simp only [lowMask, BitVec.toNat_ofNat]
  omega

/-- Where bits are left after dropping mark at the head, the oldest is a start bit (R263). -/
theorem getLsbD_dropMark (b : BitVec 32) (n : Nat) (h : 0 < dropMark b n) : b.getLsbD (dropMark b n - 1) = false := by
  induction n with
  | zero => simp [dropMark] at h
  | succ c ih =>
    cases hb : b.getLsbD c with
    | true =>
      have he : dropMark b (c + 1) = dropMark b c := by simp [dropMark, hb]
      rw [he] at h ⊢
      exact ih h
    | false => simp [dropMark, hb]

/-- After an appended bit the receive buffer is in range, whatever it held (R49, R263). -/
theorem rxAppend_rxInRange (bit : Bool) (q : BitQ) : (rxAppend bit q).2.RxInRange := by
  unfold rxAppend
  dsimp only
  split
  · exact ⟨Nat.zero_le _, and_lowMask_lt _ 0, fun h => absurd h (lt_irrefl 0)⟩
  · rename_i hlt
    refine ⟨?_, and_lowMask_lt _ _, fun h => ?_⟩
    · simp only [Param.frameBits] at hlt
      simp only
      omega
    · simp only at h ⊢
      rw [BitVec.getLsbD_and, getLsbD_dropMark _ _ h, Bool.false_and]

/-- One turn of the transmit framer, taken where fewer than `n` ≤ 16 bits are held, holds at most 25 (R264). -/
theorem txFill_txc (n : Nat) (hn : n ≤ 16) (s : State) (h : s.bq.txc < n) : (txFill n s).bq.txc ≤ 25 := by
  unfold txFill
  split
  · simp only [Param.frameBits]
    omega
  · simp only
    omega

theorem txFillTo_txc (n : Nat) (hn : n ≤ 16) (turns : Nat) (s : State) (h : s.bq.txc ≤ 25) :
    (txFillTo n turns s).bq.txc ≤ 25 := by
  induction turns generalizing s with
  | zero => exact h
  | succ k ih =>
    unfold txFillTo
    split
    · exact ih _ (txFill_txc n hn s ‹_›)
    · exact h

/-- A pull of at most 16 bits keeps the transmit buffer in range (R49, R264). -/
theorem bqTxGet_txInRange (n : Nat) (hn : n ≤ 16) (s : State) (h : s.bq.TxInRange) :
    (bqTxGet n s).2.bq.TxInRange :=
  ⟨(Nat.sub_le _ _).trans (txFillTo_txc n hn n s h.1), and_lowMask_lt _ _⟩

/-! ### What a procedure keeps -/

/-- From `s` to `t` every group of registers stays in its range: what `RegisterRanges` and `WidthsHold` say of a group
holds of `t` if it holds of `s`. Each group for itself, so that neither invariant leans on the other. -/
structure KeepsBounds (s t : State) : Prop where
  dial : s.dial.InRange s.sched.dp → t.dial.InRange t.sched.dp := by exact id
  wcnt : s.det.wcnt ≤ 255 → t.det.wcnt ≤ 255 := by exact id
  det : s.det.Bounded → t.det.Bounded := by exact id
  dtrem : s.dtrem ≤ 1600 → t.dtrem ≤ 1600 := by exact id
  lt : s.sched.lt < 2 ^ 24 → t.sched.lt < 2 ^ 24 := by exact id
  rate : s.tim.RateInRange → t.tim.RateInRange := by exact id
  tim : s.tim.Bounded → t.tim.Bounded := by exact id
  fsk : s.fsk.Bounded → t.fsk.Bounded := by exact id
  psk : s.psk.Bounded → t.psk.Bounded := by exact id
  thold : s.neg.thold ≤ 240 → t.neg.thold ≤ 240 := by exact id
  scr : s.scr.InRange → t.scr.InRange := by exact id
  rx : s.bq.RxInRange → t.bq.RxInRange := by exact id
  tx : s.bq.TxInRange → t.bq.TxInRange := by exact id

namespace KeepsBounds

theorem refl (s : State) : KeepsBounds s s := {}

theorem trans {s t u : State} (h : KeepsBounds s t) (k : KeepsBounds t u) : KeepsBounds s u where
  dial := k.dial ∘ h.dial
  wcnt := k.wcnt ∘ h.wcnt
  det := k.det ∘ h.det
  dtrem := k.dtrem ∘ h.dtrem
  lt := k.lt ∘ h.lt
  rate := k.rate ∘ h.rate
  tim := k.tim ∘ h.tim
  fsk := k.fsk ∘ h.fsk
  psk := k.psk ∘ h.psk
  thold := k.thold ∘ h.thold
  scr := k.scr ∘ h.scr
  rx := k.rx ∘ h.rx
  tx := k.tx ∘ h.tx

theorem registerRanges {s t : State} (h : KeepsBounds s t) (hs : s.RegisterRanges) : t.RegisterRanges := by
  rw [registerRanges_iff] at hs ⊢
  obtain ⟨hdial, hwcnt, hdtrem, hthold, hscr, hrx, htx, hrate⟩ := hs
  exact ⟨h.dial hdial, h.wcnt hwcnt, h.dtrem hdtrem, h.thold hthold, h.scr hscr, h.rx hrx, h.tx htx, h.rate hrate⟩

theorem widthsHold {s t : State} (h : KeepsBounds s t) (hs : s.WidthsHold) : t.WidthsHold := by
  obtain ⟨hdet, htim, hfsk, hpsk, hdtrem, hlt⟩ := hs
  exact ⟨h.det hdet, h.tim htim, h.fsk hfsk, h.psk hpsk, h.dtrem hdtrem, h.lt hlt⟩

end KeepsBounds

/-- A sample loop keeps the bounds if each of its turns does. -/
theorem sampleLoop_keepsBounds (turn : Nat → State → Turn × State) (h : ∀ i s, KeepsBounds s (turn i s).2) (n : Nat)
    (s : State) : KeepsBounds s (sampleLoop turn n 0 s).2 :=
  sampleLoop_rel KeepsBounds turn KeepsBounds.refl (fun _ _ _ => KeepsBounds.trans) h n 0 s

/-- A cell of the input buffer holds a 16-bit sample. -/
theorem inSample_mem (i : Nat) (s : State) : -32768 ≤ inSample i s ∧ inSample i s ≤ 32767 :=
  sext16_mem (s.inbuf.read i)

theorem clearWindow_keepsBounds (s : State) : KeepsBounds s (clearWindow s) where
  wcnt _ := by simp [clearWindow_det]
  det h := by
    obtain ⟨-, -, -, -, htmo⟩ := h
    rw [clearWindow_det]
    exact bounded_of_cleared _ htmo

theorem detInit_keepsBounds (s : State) : KeepsBounds s (detInit s) where
  wcnt _ := by simp [detInit_det]
  det h := by
    obtain ⟨-, -, -, -, htmo⟩ := h
    rw [detInit_det]
    exact bounded_of_cleared { s.det with detected := 0 } htmo

theorem detStep_keepsBounds (x : Int) (hx : -32768 ≤ x ∧ x ≤ 32767) (s : State) : KeepsBounds s (detStep x s).2 := by
  have hwcnt := detStep_wcnt x s
  have hdet := detStep_bounded x hx s
  obtain ⟨o, d, he⟩ := detStep_frame x s
  rw [he] at hwcnt hdet ⊢
  exact { wcnt := hwcnt, det := hdet }

theorem dtmfKey_keepsBounds (r c : Fin 4) (s : State) : KeepsBounds s (dtmfKey r c s) where
  dtrem _ := le_rfl

theorem dtmfSample_keepsBounds (s : State) : KeepsBounds s (dtmfSample s).2 := by
  unfold dtmfSample
  split
  · exact .refl s
  · exact { dtrem := fun h => (Nat.sub_le _ _).trans h }

theorem rxDeliver_keepsBounds (fr : BitVec 10) (s : State) : KeepsBounds s (rxDeliver fr s) := by
  obtain ⟨e, f, he⟩ := rxDeliver_frame fr s
  rw [he]
  exact {}

theorem rxBit_keepsBounds (bit : Bool) (s : State) : KeepsBounds s (rxBit bit s).2 := by
  have hrx := rxAppend_rxInRange bit s.bq
  obtain ⟨b, c, he⟩ := rxAppend_frame bit s.bq
  unfold rxBit
  split
  · rename_i fr q hq
    rw [hq] at hrx he
    subst he
    exact .trans (t := { s with bq := { s.bq with rxb := b, rxc := c } }) { rx := fun _ => hrx }
      (rxDeliver_keepsBounds fr _)
  · rename_i q hq
    rw [hq] at hrx he
    subst he
    exact { rx := fun _ => hrx }

theorem bqRxPut_keepsBounds (n : Nat) (v : BitVec 16) (s : State) : KeepsBounds s (bqRxPut n v s).2 := by
  induction n generalizing s with
  | zero => exact .refl s
  | succ j ih => exact (rxBit_keepsBounds (v.getLsbD j) s).trans (ih _)

theorem bqTxGet_keepsBounds (n : Nat) (hn : n ≤ 16) (s : State) : KeepsBounds s (bqTxGet n s).2 := by
  have htx := bqTxGet_txInRange n hn s
  obtain ⟨b, c, x, he⟩ := bqTxGet_frame n s
  rw [he] at htx ⊢
  exact { tx := htx }

theorem bqInit_keepsBounds (s : State) : KeepsBounds s (bqInit s) where
  rx _ := ⟨Nat.zero_le _, by simp, by simp⟩
  tx _ := ⟨Nat.zero_le _, by simp⟩

theorem fskInit_keepsBounds (d : Direction) (s : State) : KeepsBounds s (fskInit d s) where
  rate _ := ⟨show 1 ≤ 300 by omega, show 300 ≤ 8000 by omega⟩
  tim _ := timInit_bounded 1 300 (by omega)
  fsk _ := ⟨show 8000 ≤ 8299 by omega, within_replicate_zero (by omega) (by omega), Nat.zero_le _⟩

theorem fskPull_txInRange (s : State) (h : s.bq.TxInRange) : (fskPull s).bq.TxInRange := by
  unfold fskPull
  split
  · exact bqTxGet_txInRange 1 (by omega) _ h
  · exact h

theorem fskMod_keepsBounds (s : State) : KeepsBounds s (fskMod s).2 := by
  have hfsk := fskMod_bounded s
  have htx : s.bq.TxInRange → (fskMod s).2.bq.TxInRange := fskPull_txInRange s
  obtain ⟨o, f, b, c, x, he⟩ := fskMod_frame s
  rw [he] at hfsk htx ⊢
  exact { fsk := hfsk, tx := htx }

theorem fskHeard_keepsBounds (x : Int) (hx : -32768 ≤ x ∧ x ≤ 32767) (s : State) : KeepsBounds s (fskHeard x s) where
  rate := timStep_rateInRange _ _
  tim := timStep_bounded _ _
  fsk := fskHeard_bounded x hx s

theorem fskDem_keepsBounds (x : Int) (hx : -32768 ≤ x ∧ x ≤ 32767) (s : State) : KeepsBounds s (fskDem x s).2.2 := by
  rw [fskDem_eq]
  dsimp only
  split
  · exact (fskHeard_keepsBounds x hx s).trans (bqRxPut_keepsBounds 1 _ _)
  · exact fskHeard_keepsBounds x hx s

theorem pskInit_keepsBounds (d : Direction) (s : State) : KeepsBounds s (pskInit d s) where
  rate _ := ⟨show 1 ≤ 600 by omega, show 600 ≤ 8000 by omega⟩
  tim _ := timInit_bounded _ 600 (by omega)
  psk _ := ⟨show 8000 ≤ 8599 by omega, within_replicate_zero (by omega) (by omega),
    within_replicate_zero (by omega) (by omega), within_replicate_zero (by omega) (by omega),
    within_replicate_zero (by omega) (by omega), within_replicate_zero (by omega) (by omega)⟩
  thold _ := Nat.zero_le _
  scr _ := ⟨Nat.zero_le _, Nat.zero_le _⟩

theorem pskGetsym_keepsBounds (s : State) : KeepsBounds s (pskGetsym s).2 := by
  unfold pskGetsym
  split
  · exact .refl s
  · exact { scr := scrEncDibit_inRange _ _ }
  · split
    · exact { scr := scrEncDibit_inRange _ _, thold := fun h => (Nat.sub_le _ _).trans h }
    · exact (bqTxGet_keepsBounds 2 (by omega) s).trans { scr := scrEncDibit_inRange _ _ }

/-- The symbol boundary keeps the hold-off, the scrambler and the transmit buffer in range (R198, R199). -/
theorem pskPull_keeps (s : State) :
    (s.neg.thold ≤ 240 → (pskPull s).neg.thold ≤ 240) ∧ (s.scr.InRange → (pskPull s).scr.InRange) ∧
      (s.bq.TxInRange → (pskPull s).bq.TxInRange) := by
  unfold pskPull
  split
  · have h := pskGetsym_keepsBounds { s with psk := { s.psk with psymacc := s.psk.psymacc - Param.fs } }
    exact ⟨h.thold, h.scr, h.tx⟩
  · exact ⟨id, id, id⟩

theorem pskMod_keepsBounds (s : State) : KeepsBounds s (pskMod s).2 := by
  have hpsk := pskMod_bounded s
  have hpull : (s.neg.thold ≤ 240 → (pskMod s).2.neg.thold ≤ 240) ∧ (s.scr.InRange → (pskMod s).2.scr.InRange) ∧
      (s.bq.TxInRange → (pskMod s).2.bq.TxInRange) := pskPull_keeps s
  obtain ⟨o, p, h, c, b, n, x, he⟩ := pskMod_frame s
  rw [he] at hpsk hpull ⊢
  obtain ⟨hthold, hscr, htx⟩ := hpull
  exact { psk := hpsk, thold := hthold, scr := hscr, tx := htx }

theorem negPut_keepsBounds (sym : BitVec 2) (s : State) : KeepsBounds s (negPut sym s).2 := by
  have hcount (ok : Bool) (r : RunRule) (h : s.neg.thold ≤ 240) :
      (negCount ok r s.psk.pdir s.neg).2.thold ≤ 240 := by
    rcases negCount_thold ok r s.psk.pdir s.neg with he | he <;> omega
  unfold negPut
  split
  · exact .trans (t := { s with scr := (scrDecDibit sym s.scr).2 }) { scr := scrDecDibit_inRange _ _ }
      (bqRxPut_keepsBounds 2 _ _)
  · exact .refl s
  · exact { thold := hcount _ _ }
  · exact { thold := hcount _ _, scr := scrDecDibit_inRange _ _ }

theorem pskHeard_keepsBounds (x : Int) (hx : -32768 ≤ x ∧ x ≤ 32767) (s : State) : KeepsBounds s (pskHeard x s) where
  rate := timStep_rateInRange _ _
  tim := timStep_bounded _ _
  psk := pskClass_bounded x hx s

theorem pskDem_keepsBounds (x : Int) (hx : -32768 ≤ x ∧ x ≤ 32767) (s : State) : KeepsBounds s (pskDem x s).2.2 := by
  rw [pskDem_eq]
  dsimp only
  split
  · exact (pskHeard_keepsBounds x hx s).trans (negPut_keepsBounds _ _)
  · exact pskHeard_keepsBounds x hx s

/-! ### What the datapumps keep -/

/-- A captured S register gives a budget of at most 255 seconds (R44). -/
theorem seconds_lt (b : BitVec 8) : b.toNat * Param.fs < 2 ^ 24 := by
  have hb := b.isLt
  have hfs : Param.fs = 8000 := rfl
  rw [hfs]
  omega

theorem event_keepsBounds (e : Event) (s : State) : KeepsBounds s (event e s) := {}

theorem setOut_keepsBounds (i : Nat) (y : Int) (s : State) : KeepsBounds s (setOut i y s) := {}

theorem request_keepsBounds (x : Target) (s : State) : KeepsBounds s (request x s) := {}

theorem setConnect_keepsBounds (v : Bool) (s : State) : KeepsBounds s (setConnect v s) := {}

theorem lineTimeout_keepsBounds (s : State) : KeepsBounds s (lineTimeout s) := {}

/-- A new budget of the detector keeps the bounds if its register can hold it (R128, R150). -/
theorem setTmo_keepsBounds (n : Nat) (hn : n < 2 ^ 24) (s : State) :
    KeepsBounds s { s with det := { s.det with tmo := n } } where
  det h := by
    obtain ⟨hdi, hdq, hde, hwcnt, -⟩ := h
    exact ⟨hdi, hdq, hde, hwcnt, hn⟩

theorem dlFinish_keepsBounds (s : State) : KeepsBounds s (dlFinish s) := {}

theorem dlToken_keepsBounds (c : Byte) (s : State) : KeepsBounds s (dlToken c s) := by
  unfold dlToken
  split
  · exact .trans (t := { s with dial := { s.dial with dlstate := .dial } }) {} (dtmfKey_keepsBounds _ _ _)
  · split
    · exact .trans (t := { s with dial := { s.dial with dlstate := .wait } }) {}
        ((setTmo_keepsBounds _ (seconds_lt s.dial.dls8) _).trans (clearWindow_keepsBounds _))
    · exact dlFinish_keepsBounds s

theorem dlFetch_keepsBounds (s : State) : KeepsBounds s (dlFetch s) := by
  unfold dlFetch
  split
  · exact dlFinish_keepsBounds s
  · rename_i hpos
    refine .trans (t := { s with dial := { s.dial with dlpos := s.dial.dlpos + 1 } }) { dial := fun h => ?_ }
      (dlToken_keepsBounds _ _)
    obtain ⟨hlen, -, -⟩ := h
    exact ⟨hlen, show s.dial.dlpos + 1 ≤ 64 by omega, fun _ => show s.dial.dlpos + 1 ≤ s.dial.diallen by omega⟩

theorem dialerWaitTurn_keepsBounds (i : Nat) (s : State) : KeepsBounds s (dialerWaitTurn i s).2 := by
  have hstep := detStep_keepsBounds _ (inSample_mem i s) s
  unfold dialerWaitTurn
  dsimp only
  split
  · exact hstep.trans (dlFetch_keepsBounds _)
  · have hout := hstep.trans (setOut_keepsBounds i 0 _)
    split
    · exact hout.trans (event_keepsBounds _ _)
    · exact hout

theorem dialerToneTurn_keepsBounds (i : Nat) (s : State) : KeepsBounds s (dialerToneTurn i s).2 := by
  unfold dialerToneTurn
  split
  · exact .refl s
  · exact (dtmfSample_keepsBounds s).trans (setOut_keepsBounds _ _ _)

theorem dialerProcess_keepsBounds (n : Nat) (s : State) : KeepsBounds s (dialerProcess n s).2 := by
  unfold dialerProcess
  split
  · exact .refl s
  · exact sampleLoop_keepsBounds _ dialerWaitTurn_keepsBounds n s
  · split
    · exact dlFetch_keepsBounds s
    · exact sampleLoop_keepsBounds _ dialerToneTurn_keepsBounds n s

theorem detectorTurn_keepsBounds (i : Nat) (s : State) : KeepsBounds s (detectorTurn i s).2 := by
  have hstep := detStep_keepsBounds _ (inSample_mem i s) s
  unfold detectorTurn
  dsimp only
  split
  · exact hstep.trans ((event_keepsBounds _ _).trans (request_keepsBounds _ _))
  · have hout := hstep.trans (setOut_keepsBounds i 0 _)
    split
    · exact hout.trans ((event_keepsBounds _ _).trans (request_keepsBounds _ _))
    · exact hout

theorem lineTimer_keepsBounds {s t : State} (h : lineTimer s = some t) : KeepsBounds s t := by
  unfold lineTimer at h
  split at h
  · cases h
    exact .refl s
  · split at h
    · cases h
    · cases h
      exact { lt := fun hlt => (Nat.sub_le _ _).trans_lt hlt }

theorem fskSample_keepsBounds (i : Nat) (s : State) : KeepsBounds s (fskSample i s).2 :=
  (fskMod_keepsBounds s).trans ((setOut_keepsBounds _ _ _).trans (fskDem_keepsBounds _ (inSample_mem i s) _))

theorem fskEvent_keepsBounds (ev : CarrierEvent) (s : State) : KeepsBounds s (fskEvent ev s).2 := by
  cases ev with
  | none => exact .refl s
  | cd => exact (setConnect_keepsBounds _ _).trans (event_keepsBounds _ _)
  | lost => exact (setConnect_keepsBounds _ _).trans ((event_keepsBounds _ _).trans (request_keepsBounds _ _))

theorem fskTurn_keepsBounds (i : Nat) (s : State) : KeepsBounds s (fskTurn i s).2 := by
  unfold fskTurn
  split
  · exact lineTimeout_keepsBounds s
  · exact (lineTimer_keepsBounds ‹_›).trans ((fskSample_keepsBounds i _).trans (fskEvent_keepsBounds _ _))

theorem pskSample_keepsBounds (i : Nat) (s : State) : KeepsBounds s (pskSample i s).2 :=
  (pskMod_keepsBounds s).trans ((setOut_keepsBounds _ _ _).trans (pskDem_keepsBounds _ (inSample_mem i s) _))

theorem pskEvent_keepsBounds (ev : NegEvent) (s : State) : KeepsBounds s (pskEvent ev s) := by
  cases ev with
  | none => exact .refl s
  | scr => exact .refl s
  | data => exact (setConnect_keepsBounds _ _).trans (event_keepsBounds _ _)
  | fail => exact event_keepsBounds _ _

theorem pskTurn_keepsBounds (i : Nat) (s : State) : KeepsBounds s (pskTurn i s).2 := by
  unfold pskTurn
  split
  · exact lineTimeout_keepsBounds s
  · exact (lineTimer_keepsBounds ‹_›).trans ((pskSample_keepsBounds i _).trans (pskEvent_keepsBounds _ _))

theorem dpProcess_keepsBounds (n : Nat) (s : State) : KeepsBounds s (dpProcess n s).2 := by
  unfold dpProcess
  split
  · exact .refl s
  · exact dialerProcess_keepsBounds n s
  · exact sampleLoop_keepsBounds _ detectorTurn_keepsBounds n s
  · exact sampleLoop_keepsBounds _ fskTurn_keepsBounds n s
  · exact sampleLoop_keepsBounds _ pskTurn_keepsBounds n s

/-! ### What switching does (48_scheduler_host.md R294) -/

/-- The end of every switch: no request is outstanding, and SWITCH. -/
def switched (s : State) : State := event .switch { s with sched := { s.sched with pend := false } }

/-- The switch to what cannot be created: CREATEFAIL and the release. -/
def createFailed (s : State) : State :=
  release { event .createfail s with sched := { s.sched with next := .dp .none } }

/-- The created datapump becomes the active one. -/
def activate (d : Datapump) (s : State) : State := { s with sched := { s.sched with dp := d, connect := false } }

theorem applySwitch_none {s : State} (h : s.sched.next = .dp .none) : applySwitch s = switched (release s) := by
  unfold applySwitch
  rw [h]
  rfl

theorem applySwitch_invalid {s : State} (h : s.sched.next = .invalid) : applySwitch s = switched (createFailed s) := by
  unfold applySwitch
  rw [h]
  rfl

theorem applySwitch_created {s u : State} {d : Datapump} (h : s.sched.next = .dp d) (hc : create (.dp d) s = some u) :
    applySwitch s = switched (activate d u) := by
  unfold applySwitch
  rw [h]
  cases d with
  | none => cases hc
  | dialer => dsimp only; rw [hc]; rfl
  | detector => dsimp only; rw [hc]; rfl
  | fsk => dsimp only; rw [hc]; rfl
  | psk => dsimp only; rw [hc]; rfl

/-- The creation of a datapump succeeds (R293). -/
theorem create_isSome (s : State) {d : Datapump} (hd : d ≠ .none) : ∃ u, create (.dp d) s = some u := by
  cases d with
  | none => exact absurd rfl hd
  | dialer => exact ⟨_, rfl⟩
  | detector => exact ⟨_, rfl⟩
  | fsk => exact ⟨_, rfl⟩
  | psk => exact ⟨_, rfl⟩

/-- What a switch does: the release, the failed creation, or the creation of a datapump that becomes the active one. -/
theorem applySwitch_cases (s : State) :
    (s.sched.next = .dp .none ∧ applySwitch s = switched (release s)) ∨
    (s.sched.next = .invalid ∧ applySwitch s = switched (createFailed s)) ∨
    ∃ d u, s.sched.next = .dp d ∧ create (.dp d) s = some u ∧ applySwitch s = switched (activate d u) := by
  cases h : s.sched.next with
  | invalid => exact .inr (.inl ⟨rfl, applySwitch_invalid h⟩)
  | dp d =>
    by_cases hd : d = .none
    · subst hd
      exact .inl ⟨rfl, applySwitch_none h⟩
    · obtain ⟨u, hu⟩ := create_isSome s hd
      exact .inr (.inr ⟨d, u, rfl, hu, applySwitch_created h hu⟩)

/-! ### What switching keeps -/

/-- A modem's line timer starts within its register (R44, R293). -/
theorem setLt_keepsBounds (n : Nat) (hn : n < 2 ^ 24) (s : State) :
    KeepsBounds s { s with sched := { s.sched with lt := n } } where
  lt _ := hn

/-- The dialer's beginning: the first token comes next and no digit is being sent (R293). -/
theorem dialStart_keepsBounds (s : State) :
    KeepsBounds s { s with dial := { s.dial with dlpos := 0, dlstate := .wait }, dtrem := 0 } where
  dial h := ⟨h.1, Nat.zero_le _, fun _ => Nat.zero_le _⟩
  dtrem _ := Nat.zero_le _

/-- What `create` does: it keeps the bounds, and the dialer begins at the start of its string (R293). -/
theorem create_keepsBounds {d : Datapump} {s t : State} (h : create (.dp d) s = some t) :
    KeepsBounds s t ∧ (d = .dialer → t.dial.dlpos = 0) := by
  cases d with
  | none => cases h
  | dialer =>
    cases h
    have hinit : KeepsBounds s (detInit { s with dial := { s.dial with dls8 := s.sreg[8] } }) :=
      .trans (t := { s with dial := { s.dial with dls8 := s.sreg[8] } }) {} (detInit_keepsBounds _)
    generalize detInit { s with dial := { s.dial with dls8 := s.sreg[8] } } = u at hinit ⊢
    exact ⟨hinit.trans ((setTmo_keepsBounds _ (seconds_lt s.sreg[6]) u).trans (dialStart_keepsBounds _)), fun _ => rfl⟩
  | detector =>
    cases h
    exact ⟨(detInit_keepsBounds s).trans (setTmo_keepsBounds _ (seconds_lt s.sreg[7]) (detInit s)), nofun⟩
  | fsk =>
    cases h
    exact ⟨(fskInit_keepsBounds _ s).trans ((bqInit_keepsBounds _).trans
      (setLt_keepsBounds _ (seconds_lt s.sreg[7]) (bqInit (fskInit s.sched.dir s)))), nofun⟩
  | psk =>
    cases h
    exact ⟨(pskInit_keepsBounds _ s).trans ((bqInit_keepsBounds _).trans
      (setLt_keepsBounds _ (seconds_lt s.sreg[7]) (bqInit (pskInit s.sched.dir s)))), nofun⟩

/-- Another DP keeps the bounds if the dialer, where it is the one, stands at the start of its string. -/
theorem setSched_keepsBounds (c : Sched) (s : State) (hlt : c.lt = s.sched.lt)
    (hdp : c.dp = .dialer → s.dial.dlpos = 0) : KeepsBounds s { s with sched := c } where
  dial h := by
    obtain ⟨hlen, hpos, -⟩ := h
    exact ⟨hlen, hpos, fun hd => show s.dial.dlpos ≤ s.dial.diallen by have := hdp hd; omega⟩
  lt h := by rwa [hlt]

theorem release_keepsBounds (s : State) : KeepsBounds s (release s) :=
  setSched_keepsBounds _ s rfl nofun

theorem createFailed_keepsBounds (s : State) : KeepsBounds s (createFailed s) :=
  .trans (t := { event .createfail s with sched := { s.sched with next := .dp .none } }) {} (release_keepsBounds _)

theorem activate_keepsBounds (d : Datapump) (s : State) (h : d = .dialer → s.dial.dlpos = 0) :
    KeepsBounds s (activate d s) :=
  setSched_keepsBounds _ s rfl h

theorem switched_keepsBounds (s : State) : KeepsBounds s (switched s) := {}

theorem applySwitch_keepsBounds (s : State) : KeepsBounds s (applySwitch s) := by
  rcases applySwitch_cases s with ⟨-, he⟩ | ⟨-, he⟩ | ⟨d, u, -, hc, he⟩ <;> rw [he]
  · exact (release_keepsBounds s).trans (switched_keepsBounds _)
  · exact (createFailed_keepsBounds s).trans (switched_keepsBounds _)
  · obtain ⟨hu, hpos⟩ := create_keepsBounds hc
    exact hu.trans ((activate_keepsBounds d u hpos).trans (switched_keepsBounds _))

theorem zeroFill_keepsBounds (left i : Nat) (s : State) : KeepsBounds s (zeroFill left i s) := by
  obtain ⟨m, he⟩ := zeroFill_frame left i s
  rw [he]
  exact {}

theorem process_keepsBounds (n : Nat) (s : State) : KeepsBounds s (process n s).after := by
  have hfill := (dpProcess_keepsBounds n s).trans (zeroFill_keepsBounds (n - (dpProcess n s).1) (dpProcess n s).1 _)
  unfold process
  dsimp only
  split
  · exact hfill.trans (applySwitch_keepsBounds _)
  · exact hfill

/-! ### From procedures to commands -/

/-- If the command answers a next state, the state has the property. -/
def EndsIn (P : State → Prop) (r : Result) : Prop := ∀ t, r = .next t → P t

/-- A relation between the states before and after a command that neither the response nor a command error
concerns. -/
structure IgnoresAnswer (R : State → State → Prop) : Prop where
  refl : ∀ s, R s s
  resp : ∀ s t r, R s t → R s { t with resp := r }
  error : ∀ s t, R s t → R s (event .cmderr t)

namespace IgnoresAnswer

variable {R : State → State → Prop} (hR : IgnoresAnswer R)
include hR

theorem done {s t : State} (v : Value) (h : R s t) : EndsIn (R s) (done v t) := by
  rintro u hu
  cases hu
  exact hR.resp s t _ h

theorem raise (e : CmdError) (s : State) : EndsIn (R s) (raise e s) := by
  rintro u hu
  cases hu
  exact hR.resp s _ _ (hR.error s s (hR.refl s))

theorem direct {s : State} {body : Result} (h : EndsIn (R s) body) : EndsIn (R s) (direct s body) := by
  rcases direct_cases s body with ⟨-, he⟩ | ⟨-, he⟩ <;> rw [he]
  · exact h
  · rw [← raise_eq_errorAnswer]
    exact hR.raise .busy s

theorem inRange {α : Type} {o : Option α} {s : State} {body : α → Result}
    (h : ∀ x, o = some x → EndsIn (R s) (body x)) : EndsIn (R s) (inRange o s body) := by
  rcases inRange_cases o s body with ⟨-, he⟩ | ⟨x, hx, he⟩ <;> rw [he]
  · exact hR.raise .range s
  · exact h x hx

theorem withOsc {a : BitVec 8} {s : State} {body : Fin 12 → Result} (h : ∀ i, EndsIn (R s) (body i)) :
    EndsIn (R s) (withOsc a s body) :=
  hR.direct (hR.inRange fun i _ => h i)

end IgnoresAnswer

/-! ### What the commands keep -/

theorem keepsBounds_ignoresAnswer : IgnoresAnswer KeepsBounds where
  refl := .refl
  resp _ _ _ h := h.trans {}
  error _ _ h := h.trans (event_keepsBounds _ _)

theorem reset_registerRanges : State.reset.RegisterRanges := by decide

theorem reset_widthsHold : State.reset.WidthsHold := by decide

/-- The reset state is in range in every group, whatever was before (R48). -/
theorem reset_keepsBounds (s : State) (port : List HostInput) : KeepsBounds s { State.reset with port := port } := by
  obtain ⟨hdial, hwcnt, hdtrem, hthold, hscr, hrx, htx, hrate⟩ := (registerRanges_iff _).1 reset_registerRanges
  obtain ⟨hdet, htim, hfsk, hpsk, -, hlt⟩ := reset_widthsHold
  exact ⟨fun _ => hdial, fun _ => hwcnt, fun _ => hdet, fun _ => hdtrem, fun _ => hlt, fun _ => hrate, fun _ => htim,
    fun _ => hfsk, fun _ => hpsk, fun _ => hthold, fun _ => hscr, fun _ => hrx, fun _ => htx⟩

/-- DIALC appends where the string has room and the dialer is not reading it (R309). -/
theorem execDialc_keepsBounds (b : BitVec 16) (s : State) : EndsIn (KeepsBounds s) (execDialc b s) := by
  have hR := keepsBounds_ignoresAnswer
  unfold execDialc
  split
  · exact hR.raise _ s
  · split
    · exact hR.raise _ s
    · rename_i hdp hlen
      simp only [Param.dialMax] at hlen
      refine hR.done _ { dial := fun h => ?_ }
      obtain ⟨hmax, hpos, -⟩ := h
      exact ⟨show s.dial.diallen + 1 ≤ 64 by omega, hpos, fun hd => absurd hd hdp⟩

/-- DIALX empties the string where the dialer is not reading it (R310). -/
theorem execDialx_keepsBounds (s : State) : EndsIn (KeepsBounds s) (execDialx s) := by
  have hR := keepsBounds_ignoresAnswer
  unfold execDialx
  split
  · exact hR.raise _ s
  · rename_i hdp
    exact hR.done _ { dial := fun h => ⟨Nat.zero_le _, h.2.1, fun hd => absurd hd hdp⟩ }

theorem execDtk_keepsBounds (b : BitVec 16) (s : State) : EndsIn (KeepsBounds s) (execDtk b s) := by
  have hR := keepsBounds_ignoresAnswer
  refine hR.direct ?_
  split
  · exact hR.done _ (dtmfKey_keepsBounds _ _ s)
  · exact hR.raise _ s

theorem execTxch_keepsBounds (b : BitVec 16) (s : State) : EndsIn (KeepsBounds s) (execTxch b s) := by
  have hR := keepsBounds_ignoresAnswer
  unfold execTxch
  split
  · exact hR.done _ {}
  · exact hR.raise _ s

theorem execRxch_keepsBounds (s : State) : EndsIn (KeepsBounds s) (execRxch s) := by
  have hR := keepsBounds_ignoresAnswer
  unfold execRxch
  split
  · exact hR.done _ {}
  · exact hR.done _ (.refl s)

/-- WRC writes no bounded register (R303). -/
theorem execWrc_keepsBounds (a : BitVec 8) (b : BitVec 16) (s : State) : EndsIn (KeepsBounds s) (execWrc a b s) := by
  have hR := keepsBounds_ignoresAnswer
  unfold execWrc
  split
  · exact hR.raise _ s
  · exact hR.inRange fun r _ => hR.done _ {}

/-- A legal rate is in the range of TRATE (R169). -/
theorem rateOperand_mem {b : BitVec 16} {rate : Nat} (h : rateOperand b = some rate) : 1 ≤ rate ∧ rate ≤ 8000 := by
  unfold rateOperand at h
  split at h
  · cases h
    assumption
  · cases h

/-- A legal bit count is at most 16 (R267, R268). -/
theorem bitCountOperand_le {a : BitVec 8} {n : Nat} (h : bitCountOperand a = some n) : n ≤ 16 := by
  unfold bitCountOperand at h
  split at h
  · cases h
    omega
  · cases h

theorem execTimi_keepsBounds (a : BitVec 8) (b : BitVec 16) (s : State) : EndsIn (KeepsBounds s) (execTimi a b s) := by
  have hR := keepsBounds_ignoresAnswer
  refine hR.direct (hR.inRange fun rate hrate => hR.done _ ?_)
  have hmem := rateOperand_mem hrate
  exact { rate := fun _ => hmem, tim := fun _ => timInit_bounded _ _ hmem }

theorem execDett_keepsBounds (a : BitVec 8) (b : BitVec 16) (s : State) : EndsIn (KeepsBounds s) (execDett a b s) :=
  have hR := keepsBounds_ignoresAnswer
  hR.direct (hR.done _ (setTmo_keepsBounds _ (concat24 a b).isLt s))

/-- Writing a delay line of the PSK modem keeps the bounds on a 16-bit sample (R211, R212). -/
theorem firTx_keepsBounds (x : Int) (hx : -32768 ≤ x ∧ x ≤ 32767) (s : State) : KeepsBounds s (firTx x s).2 where
  psk h := by
    obtain ⟨hacc, htxd, hrest⟩ := h
    exact ⟨hacc, within_shiftIn hx htxd, hrest⟩

theorem firRx_keepsBounds (x : Int) (hx : -32768 ≤ x ∧ x ≤ 32767) (s : State) : KeepsBounds s (firRx x s).2 where
  psk h := by
    obtain ⟨hacc, htxd, hrxd, hrest⟩ := h
    exact ⟨hacc, htxd, within_shiftIn hx hrxd, hrest⟩

/-- Every command keeps every register group in its range. -/
theorem exec_keepsBounds (i : Instr) (s : State) : EndsIn (KeepsBounds s) (exec i s) := by
  have hR := keepsBounds_ignoresAnswer
  cases i with
  | nop => exact hR.done _ (.refl s)
  | reset => exact hR.done _ (reset_keepsBounds s s.port)
  | wrs a b => exact hR.inRange fun i _ => hR.done _ {}
  | rds a => exact hR.inRange fun i _ => hR.done _ (.refl s)
  | wrc a b => exact execWrc_keepsBounds a b s
  | rdc a => exact hR.inRange fun r _ => hR.done _ (.refl s)
  | rdst => exact hR.done _ (.refl s)
  | rdev => exact hR.done _ {}
  | dialc b => exact execDialc_keepsBounds b s
  | dialx => exact execDialx_keepsBounds s
  | orig =>
    exact hR.direct (hR.done _ (.trans (t := request (.dp .dialer)
      { s with sched := { s.sched with dir := .originator, offhook := true } }) {} (applySwitch_keepsBounds _)))
  | answ =>
    exact hR.direct (hR.done _ (.trans (t := request (modemOf s.ctl.mode)
      { s with sched := { s.sched with dir := .answerer, offhook := true } }) {} (applySwitch_keepsBounds _)))
  | hup => exact hR.done _ ((request_keepsBounds _ s).trans (applySwitch_keepsBounds _))
  | wrin a b => exact hR.done _ {}
  | rdout a => exact hR.done _ (.refl s)
  | proc b => exact hR.inRange fun n _ => hR.done _ (process_keepsBounds n s)
  | step b => exact hR.done _ (.trans (t := setIn 0 b s) {} (process_keepsBounds 1 _))
  | txch b => exact execTxch_keepsBounds b s
  | rxch => exact execRxch_keepsBounds s
  | oscp a b => exact hR.withOsc fun i => hR.done _ {}
  | osci a b => exact hR.withOsc fun i => hR.done _ {}
  | osca a => exact hR.withOsc fun i => hR.done _ {}
  | oscc a => exact hR.withOsc fun i => hR.done _ (.refl s)
  | oscs a => exact hR.withOsc fun i => hR.done _ (.refl s)
  | oscr a => exact hR.withOsc fun i => hR.done _ (.refl s)
  | deti => exact hR.direct (hR.done _ (detInit_keepsBounds s))
  | dett a b => exact execDett_keepsBounds a b s
  | dets b => exact hR.direct (hR.done _ (detStep_keepsBounds _ (sext16_mem b) s))
  | detr => exact hR.done _ (.refl s)
  | dtk b => exact execDtk_keepsBounds b s
  | dts => exact hR.direct (hR.done _ (dtmfSample_keepsBounds s))
  | fski a => exact hR.direct (hR.done _ (fskInit_keepsBounds _ s))
  | fskm => exact hR.direct (hR.done _ (fskMod_keepsBounds s))
  | fskd b => exact hR.direct (hR.done _ (fskDem_keepsBounds _ (sext16_mem b) s))
  | pski a => exact hR.direct (hR.done _ (pskInit_keepsBounds _ s))
  | pskm => exact hR.direct (hR.done _ (pskMod_keepsBounds s))
  | pskd b => exact hR.direct (hR.done _ (pskDem_keepsBounds _ (sext16_mem b) s))
  | firt b => exact hR.direct (hR.done _ (firTx_keepsBounds _ (sext16_mem b) s))
  | firr b => exact hR.direct (hR.done _ (firRx_keepsBounds _ (sext16_mem b) s))
  | mape a => exact hR.done _ (.refl s)
  | mapd a => exact hR.done _ (.refl s)
  | scri => exact hR.direct (hR.done _ { scr := fun _ => ⟨Nat.zero_le _, Nat.zero_le _⟩ })
  | scre a => exact hR.direct (hR.done _ { scr := scrEnc_inRange _ _ })
  | scrd a => exact hR.direct (hR.done _ { scr := scrDec_inRange _ _ })
  | timi a b => exact execTimi_keepsBounds a b s
  | tims a => exact hR.direct (hR.done _ { rate := timStep_rateInRange _ _, tim := timStep_bounded _ _ })
  | bqi => exact hR.direct (hR.done _ (bqInit_keepsBounds s))
  | bqp a b => exact hR.direct (hR.inRange fun n _ => hR.done _ (bqRxPut_keepsBounds n b s))
  | bqg a => exact hR.direct (hR.inRange fun n hn => hR.done _ (bqTxGet_keepsBounds n (bitCountOperand_le hn) s))
  | ffst => exact hR.done _ (.refl s)
  | ffcl => exact hR.done _ {}

/-- What a step does: nothing, the reset, a command, or the error of a word that is none (R81, R87, R370, R373). -/
theorem step_cases (s : State) :
    step s = .next s ∨ (∃ rest, step s = .next { State.reset with port := rest }) ∨
    (∃ i rest, step s = exec i { s with port := rest }) ∨ ∃ rest, step s = raise .illegal { s with port := rest } := by
  rcases hport : s.port with _ | ⟨w | _, rest⟩
  · exact .inl (by simp [step, fetch, hport])
  · cases hw : decode w with
    | ok i => exact .inr (.inr (.inl ⟨i, rest, by simp [step, fetch, hport, hw]⟩))
    | error r => exact .inr (.inr (.inr ⟨rest, by simp [step, fetch, hport, hw]⟩))
  · exact .inr (.inl ⟨rest, by simp [step, fetch, hport, hardReset]⟩)

/-- Every step keeps every register group in its range. -/
theorem step_keepsBounds (s : State) : EndsIn (KeepsBounds s) (step s) := by
  have htake (rest : List HostInput) : KeepsBounds s { s with port := rest } := {}
  intro t ht
  rcases step_cases s with he | ⟨rest, he⟩ | ⟨i, rest, he⟩ | ⟨rest, he⟩ <;> rw [he] at ht
  · cases ht
    exact .refl s
  · cases ht
    exact reset_keepsBounds s rest
  · exact (htake rest).trans (exec_keepsBounds i _ t ht)
  · exact (htake rest).trans (keepsBounds_ignoresAnswer.raise .illegal _ t ht)

/-- Settles O8: each step keeps each group of registers in its range. -/
theorem registerRangesStay : Obligations.RegisterRangesStay := by
  unfold Obligations.RegisterRangesStay
  exact fun s t hs ht => (step_keepsBounds s t ht).registerRanges hs

/-- Settles O9: each step keeps each accumulator, delay line and budget within its register. -/
theorem registerWidthsSuffice : Obligations.RegisterWidthsSuffice := by
  unfold Obligations.RegisterWidthsSuffice
  exact fun s t hs ht => (step_keepsBounds s t ht).widthsHold hs

end Sys2Proof.Machine
end

section
/-! Irq.lean: no procedure reads EVT or IEN (10_state.md R27, R28, 60_exceptions.md R354). A procedure run with any EVT
and any IEN does what it always does and adds the same events. -/

namespace Sys2Proof.Machine

/-- `s` with the two registers IRQ is made of replaced (R28). -/
def State.withIrq (e m : BitVec 11) (s : State) : State := { s with evt := e, ctl := { s.ctl with ien := m } }

/-- The procedure reads neither EVT nor IEN: it leaves IEN and only adds events, always the same ones. -/
def IrqBlind (f : State → State) : Prop := ∀ s, ∃ k, ∀ e m, f (s.withIrq e m) = (f s).withIrq (e ||| k) m

/-- The same of a procedure with a result, which depends on neither register. -/
def IrqBlindWith {α : Type} (f : State → α × State) : Prop :=
  ∀ s, ∃ k, ∀ e m, f (s.withIrq e m) = ((f s).1, (f s).2.withIrq (e ||| k) m)

/-- A procedure that commutes with the replacement is blind: it adds no event. -/
theorem irqBlind_of_comm {f : State → State} (h : ∀ s e m, f (s.withIrq e m) = (f s).withIrq e m) : IrqBlind f :=
  fun s => ⟨0#11, fun e m => by rw [h, BitVec.or_zero]⟩

theorem irqBlindWith_of_comm {α : Type} {f : State → α × State}
    (h : ∀ s e m, f (s.withIrq e m) = ((f s).1, (f s).2.withIrq e m)) : IrqBlindWith f :=
  fun s => ⟨0#11, fun e m => by rw [h, BitVec.or_zero]⟩

theorem irqBlind_id : IrqBlind fun s => s := irqBlind_of_comm fun _ _ _ => rfl

theorem IrqBlind.comp {f g : State → State} (hg : IrqBlind g) (hf : IrqBlind f) : IrqBlind fun s => g (f s) := by
  intro s
  obtain ⟨k, hk⟩ := hf s
  obtain ⟨l, hl⟩ := hg (f s)
  exact ⟨k ||| l, fun e m => by simp only [hk, hl, BitVec.or_assoc]⟩

theorem IrqBlindWith.comp {α : Type} {f : State → State} {g : State → α × State} (hg : IrqBlindWith g)
    (hf : IrqBlind f) : IrqBlindWith fun s => g (f s) := by
  intro s
  obtain ⟨k, hk⟩ := hf s
  obtain ⟨l, hl⟩ := hg (f s)
  exact ⟨k ||| l, fun e m => by simp only [hk, hl, BitVec.or_assoc]⟩

/-- A procedure continued by another, which may use its result. -/
theorem IrqBlindWith.bind {α β : Type} {f : State → α × State} {g : α → State → β × State} (hf : IrqBlindWith f)
    (hg : ∀ a, IrqBlindWith (g a)) : IrqBlindWith fun s => g (f s).1 (f s).2 := by
  intro s
  obtain ⟨k, hk⟩ := hf s
  obtain ⟨l, hl⟩ := hg (f s).1 (f s).2
  exact ⟨k ||| l, fun e m => by simp only [hk, hl, BitVec.or_assoc]⟩

/-- A procedure continued by one without a result. -/
theorem IrqBlindWith.map {α β : Type} {f : State → α × State} {g : State → State} (r : α → β) (hf : IrqBlindWith f)
    (hg : IrqBlind g) : IrqBlindWith fun s => (r (f s).1, g (f s).2) := by
  refine hf.bind (g := fun a t => (r a, g t)) fun a s => ?_
  obtain ⟨k, hk⟩ := hg s
  exact ⟨k, fun e m => by simp only [hk]⟩

/-- A result that does not depend on the state. -/
theorem IrqBlind.withResult {α : Type} {f : State → State} (hf : IrqBlind f) (a : α) :
    IrqBlindWith fun s => (a, f s) := by
  intro s
  obtain ⟨k, hk⟩ := hf s
  exact ⟨k, fun e m => by simp only [hk]⟩

theorem IrqBlindWith.snd {α : Type} {f : State → α × State} (hf : IrqBlindWith f) : IrqBlind fun s => (f s).2 := by
  intro s
  obtain ⟨k, hk⟩ := hf s
  exact ⟨k, fun e m => by simp only [hk]⟩

/-- A choice by a test that reads neither register. -/
theorem irqBlindWith_ite {α : Type} {c : State → Prop} [DecidablePred c] {f g : State → α × State}
    (hc : ∀ s e m, c (s.withIrq e m) ↔ c s) (hf : IrqBlindWith f) (hg : IrqBlindWith g) :
    IrqBlindWith fun s => if c s then f s else g s := by
  intro s
  by_cases h : c s
  · obtain ⟨k, hk⟩ := hf s
    exact ⟨k, fun e m => by simp only [if_pos ((hc s e m).2 h), if_pos h, hk]⟩
  · obtain ⟨k, hk⟩ := hg s
    exact ⟨k, fun e m => by simp only [if_neg ((hc s e m).not.2 h), if_neg h, hk]⟩

theorem irqBlind_ite {c : State → Prop} [DecidablePred c] {f g : State → State}
    (hc : ∀ s e m, c (s.withIrq e m) ↔ c s) (hf : IrqBlind f) (hg : IrqBlind g) :
    IrqBlind fun s => if c s then f s else g s := by
  intro s
  by_cases h : c s
  · obtain ⟨k, hk⟩ := hf s
    exact ⟨k, fun e m => by simp only [if_pos ((hc s e m).2 h), if_pos h, hk]⟩
  · obtain ⟨k, hk⟩ := hg s
    exact ⟨k, fun e m => by simp only [if_neg ((hc s e m).not.2 h), if_neg h, hk]⟩

/-! ### The units -/

theorem event_irqBlind (ev : Event) : IrqBlind (event ev) := fun _ => ⟨ev.mask, fun _ _ => rfl⟩

theorem setOut_irqBlind (i : Nat) (y : Int) : IrqBlind (setOut i y) := irqBlind_of_comm fun _ _ _ => rfl

theorem request_irqBlind (x : Target) : IrqBlind (request x) := irqBlind_of_comm fun _ _ _ => rfl

theorem setConnect_irqBlind (v : Bool) : IrqBlind (setConnect v) := irqBlind_of_comm fun _ _ _ => rfl

theorem clearWindow_irqBlind : IrqBlind clearWindow := irqBlind_of_comm fun _ _ _ => rfl

theorem detInit_irqBlind : IrqBlind detInit := irqBlind_of_comm fun _ _ _ => rfl

theorem accumulate_irqBlind (v : Int) : IrqBlind (accumulate v) := irqBlind_of_comm fun _ _ _ => rfl

theorem windowEnd_irqBlind : IrqBlindWith windowEnd := irqBlindWith_of_comm fun _ _ _ => rfl

theorem detStep_irqBlind (x : Int) : IrqBlindWith (detStep x) := by
  have hwindow : IrqBlindWith fun t => if t.det.wcnt = Param.detWindow then windowEnd t else (DetResult.cont, t) :=
    irqBlindWith_ite (fun _ _ _ => Iff.rfl) windowEnd_irqBlind (irqBlind_id.withResult _)
  have hbudget : IrqBlind fun u => { u with det := { u.det with tmo := u.det.tmo - 1 } } :=
    irqBlind_of_comm fun _ _ _ => rfl
  exact irqBlindWith_ite (fun _ _ _ => Iff.rfl) (irqBlind_id.withResult _)
    ((hwindow.comp (accumulate_irqBlind (asr x Param.detShift))).map id hbudget)

theorem dtmfKey_irqBlind (r c : Fin 4) : IrqBlind (dtmfKey r c) := irqBlind_of_comm fun _ _ _ => rfl

theorem dtmfSample_irqBlind : IrqBlindWith dtmfSample :=
  irqBlindWith_ite (fun _ _ _ => Iff.rfl) (irqBlindWith_of_comm fun _ _ _ => rfl)
    (irqBlindWith_of_comm fun _ _ _ => rfl)

/-- The delivery of a frame may add FRAMING and RXOVF (R263). -/
theorem rxDeliver_irqBlind (fr : BitVec 10) : IrqBlind (rxDeliver fr) := by
  have hstop : IrqBlind fun s => if fr.getLsbD 0 then s else event .framing s :=
    irqBlind_ite (fun _ _ _ => Iff.rfl) irqBlind_id (event_irqBlind .framing)
  have hpush : IrqBlind fun s => match s.rxfifo.push (rev8 (fr.extractLsb' 1 8)) with
      | some f => { s with rxfifo := f }
      | none => event .rxovf s := by
    intro s
    have hsame (e m) : (s.withIrq e m).rxfifo = s.rxfifo := rfl
    rcases s.rxfifo.push_cases (rev8 (fr.extractLsb' 1 8)) with ⟨-, hp⟩ | ⟨-, hp⟩
    · exact ⟨Event.rxovf.mask, fun e m => by simp only [hsame, hp]; rfl⟩
    · exact ⟨0#11, fun e m => by simp only [hsame, hp, BitVec.or_zero]; rfl⟩
  exact hpush.comp hstop

theorem rxBit_irqBlind (bit : Bool) : IrqBlindWith (rxBit bit) := by
  intro s
  have hsame (e m) : (s.withIrq e m).bq = s.bq := rfl
  rcases hq : rxAppend bit s.bq with ⟨_ | fr, q⟩
  · exact ⟨0#11, fun e m => by simp only [rxBit, hsame, hq, BitVec.or_zero]; rfl⟩
  · obtain ⟨k, hk⟩ := rxDeliver_irqBlind fr { s with bq := q }
    exact ⟨k, fun e m => by simp only [rxBit, hsame, hq]; exact congrArg (Prod.mk 1) (hk e m)⟩

theorem bqRxPut_irqBlind (n : Nat) (v : BitVec 16) : IrqBlindWith (bqRxPut n v) := by
  induction n with
  | zero => exact irqBlind_id.withResult 0
  | succ j ih => exact (rxBit_irqBlind (v.getLsbD j)).bind fun d => ih.bind fun e => irqBlind_id.withResult (d + e)

theorem txFill_irqBlind (n : Nat) : IrqBlind (txFill n) := by
  refine irqBlind_of_comm fun s e m => ?_
  have hsame : (s.withIrq e m).txfifo = s.txfifo := rfl
  rcases s.txfifo.pop_cases with ⟨-, hp⟩ | ⟨-, hp⟩ <;> simp only [txFill, hsame, hp] <;> rfl

theorem txFillTo_irqBlind (n turns : Nat) : IrqBlind (txFillTo n turns) := by
  induction turns with
  | zero => exact irqBlind_id
  | succ k ih => exact irqBlind_ite (fun _ _ _ => Iff.rfl) (ih.comp (txFill_irqBlind n)) irqBlind_id

theorem bqTxGet_irqBlind (n : Nat) : IrqBlindWith (bqTxGet n) := by
  have htake : IrqBlindWith fun t : State =>
      (((t.bq.txb >>> (t.bq.txc - n)) &&& lowMask n).setWidth 16,
        { t with bq := { t.bq with txc := t.bq.txc - n, txb := t.bq.txb &&& lowMask (t.bq.txc - n) } }) :=
    irqBlindWith_of_comm fun _ _ _ => rfl
  exact htake.comp (txFillTo_irqBlind n n)

theorem bqInit_irqBlind : IrqBlind bqInit := irqBlind_of_comm fun _ _ _ => rfl

theorem fskInit_irqBlind (d : Direction) : IrqBlind (fskInit d) := irqBlind_of_comm fun _ _ _ => rfl

theorem fskPull_irqBlind : IrqBlind fskPull := by
  have hboundary : IrqBlind fun s => { s with fsk := { s.fsk with ftxacc := s.fsk.ftxacc - Param.fs } } :=
    irqBlind_of_comm fun _ _ _ => rfl
  have hbit (r : BitVec 16) : IrqBlindWith fun t => ((), { t with fsk := { t.fsk with ftxbit := r.getLsbD 0 } }) :=
    irqBlindWith_of_comm fun _ _ _ => rfl
  exact irqBlind_ite (fun _ _ _ => Iff.rfl) (((bqTxGet_irqBlind 1).bind hbit).snd.comp hboundary) irqBlind_id

theorem fskMod_irqBlind : IrqBlindWith fskMod := by
  have hsample : IrqBlindWith fun t : State =>
      (asr (oscCos 7 (setInc 7 (fskInc t.fsk.fdir.txChannel t.fsk.ftxbit) t)) Param.txShift,
        { oscAdv 7 (setInc 7 (fskInc t.fsk.fdir.txChannel t.fsk.ftxbit) t) with
          fsk := { t.fsk with ftxacc := t.fsk.ftxacc + Param.fskRate } }) :=
    irqBlindWith_of_comm fun _ _ _ => rfl
  exact hsample.comp fskPull_irqBlind

theorem fskDem_irqBlind (x : Int) : IrqBlindWith fun s => (((fskDem x s).1, (fskDem x s).2.1), (fskDem x s).2.2) := by
  have hheard : IrqBlindWith fun s => (fskVerdict x s, fskHeard x s) := irqBlindWith_of_comm fun _ _ _ => rfl
  have hword : IrqBlindWith fun w => (w.tim.tcur.setWidth 16, w) := irqBlindWith_of_comm fun _ _ _ => rfl
  have hpush (b : Bool) : IrqBlind fun w =>
      if b && w.fsk.fcd then (bqRxPut 1 (w.tim.tcur.setWidth 16) w).2 else w :=
    irqBlind_ite (fun _ _ _ => Iff.rfl) (hword.bind fun v => bqRxPut_irqBlind 1 v).snd irqBlind_id
  have hdem := hheard.bind fun v => (hpush v.1).withResult v
  simp only [fskDem_eq]
  exact hdem

theorem pskInit_irqBlind (d : Direction) : IrqBlind (pskInit d) := irqBlind_of_comm fun _ _ _ => rfl

theorem scrEncDibit_irqBlind (d : BitVec 2) :
    IrqBlindWith fun s => ((scrEncDibit d s.scr).1, { s with scr := (scrEncDibit d s.scr).2 }) :=
  irqBlindWith_of_comm fun _ _ _ => rfl

theorem pskGetsym_irqBlind : IrqBlindWith pskGetsym := by
  have hhold : IrqBlind fun s => { s with neg := { s.neg with thold := s.neg.thold - 1 } } :=
    irqBlind_of_comm fun _ _ _ => rfl
  have hdata : IrqBlindWith fun s : State =>
      if 0 < s.neg.thold then
        ((scrEncDibit cfg.pattern s.scr).1,
          { s with scr := (scrEncDibit cfg.pattern s.scr).2, neg := { s.neg with thold := s.neg.thold - 1 } })
      else
        ((scrEncDibit ((bqTxGet 2 s).1.setWidth 2) (bqTxGet 2 s).2.scr).1,
          { (bqTxGet 2 s).2 with scr := (scrEncDibit ((bqTxGet 2 s).1.setWidth 2) (bqTxGet 2 s).2.scr).2 }) :=
    irqBlindWith_ite (fun _ _ _ => Iff.rfl) ((scrEncDibit_irqBlind cfg.pattern).map id hhold)
      ((bqTxGet_irqBlind 2).bind fun r => scrEncDibit_irqBlind (r.setWidth 2))
  intro s
  have hsame (e m) : (s.withIrq e m).neg.txm = s.neg.txm := rfl
  cases htxm : s.neg.txm with
  | raw =>
    obtain ⟨k, hk⟩ := irqBlind_id.withResult cfg.rawSym s
    exact ⟨k, fun e m => by simpa only [pskGetsym, hsame, htxm] using hk e m⟩
  | scrambled =>
    obtain ⟨k, hk⟩ := scrEncDibit_irqBlind cfg.pattern s
    exact ⟨k, fun e m => by simpa only [pskGetsym, hsame, htxm] using hk e m⟩
  | data =>
    obtain ⟨k, hk⟩ := hdata s
    exact ⟨k, fun e m => by simpa only [pskGetsym, hsame, htxm] using hk e m⟩

theorem pskPull_irqBlind : IrqBlind pskPull := by
  have hboundary : IrqBlind fun s => { s with psk := { s.psk with psymacc := s.psk.psymacc - Param.fs } } :=
    irqBlind_of_comm fun _ _ _ => rfl
  have hphase (sym : BitVec 2) : IrqBlindWith fun t : State =>
      ((), setPhase 10 (t.osc[(10 : Fin 12)].phase + (mapQ sym).setWidth 12 * 1024) t) :=
    irqBlindWith_of_comm fun _ _ _ => rfl
  exact irqBlind_ite (fun _ _ _ => Iff.rfl) ((pskGetsym_irqBlind.bind hphase).snd.comp hboundary) irqBlind_id

theorem firTx_irqBlind (x : Int) : IrqBlindWith (firTx x) := irqBlindWith_of_comm fun _ _ _ => rfl

theorem firRx_irqBlind (x : Int) : IrqBlindWith (firRx x) := irqBlindWith_of_comm fun _ _ _ => rfl

theorem pskMod_irqBlind : IrqBlindWith pskMod := by
  have hcarrier : IrqBlindWith fun t =>
      (asr (oscCos 10 t) Param.txShift,
        { oscAdv 10 t with psk := { t.psk with psymacc := t.psk.psymacc + Param.pskRate } }) :=
    irqBlindWith_of_comm fun _ _ _ => rfl
  exact (hcarrier.bind firTx_irqBlind).comp pskPull_irqBlind

theorem negPut_irqBlind (sym : BitVec 2) : IrqBlindWith (negPut sym) := by
  have hdescramble : IrqBlindWith fun s =>
      ((scrDecDibit sym s.scr).1, { s with scr := (scrDecDibit sym s.scr).2 }) :=
    irqBlindWith_of_comm fun _ _ _ => rfl
  have hdata : IrqBlindWith fun s => (NegEvent.none,
      (bqRxPut 2 ((scrDecDibit sym s.scr).1.setWidth 16) { s with scr := (scrDecDibit sym s.scr).2 }).2) :=
    hdescramble.bind fun d => (bqRxPut_irqBlind 2 (d.setWidth 16)).snd.withResult NegEvent.none
  have hcount (ok : Bool) (r : RunRule) : IrqBlindWith fun s =>
      ((negCount ok r s.psk.pdir s.neg).1, { s with neg := (negCount ok r s.psk.pdir s.neg).2 }) :=
    irqBlindWith_of_comm fun _ _ _ => rfl
  intro s
  have hsame (e m) : (s.withIrq e m).neg.ph = s.neg.ph := rfl
  cases hph : s.neg.ph with
  | raw =>
    obtain ⟨k, hk⟩ := hcount (sym == cfg.rawSym) rawRule s
    exact ⟨k, fun e m => by simpa only [negPut, hsame, hph] using hk e m⟩
  | scrambled =>
    obtain ⟨k, hk⟩ := hdescramble.bind (fun d => hcount (d == cfg.pattern) scrRule) s
    exact ⟨k, fun e m => by simpa only [negPut, hsame, hph] using hk e m⟩
  | data =>
    obtain ⟨k, hk⟩ := hdata s
    exact ⟨k, fun e m => by simpa only [negPut, hsame, hph] using hk e m⟩
  | failed =>
    obtain ⟨k, hk⟩ := irqBlind_id.withResult NegEvent.none s
    exact ⟨k, fun e m => by simpa only [negPut, hsame, hph] using hk e m⟩

theorem pskDem_irqBlind (x : Int) : IrqBlindWith fun s => (((pskDem x s).1, (pskDem x s).2.1), (pskDem x s).2.2) := by
  have hheard : IrqBlindWith fun s => (pskEmits x s, pskHeard x s) := irqBlindWith_of_comm fun _ _ _ => rfl
  have hword : IrqBlindWith fun w => (w.tim.tcur, w) := irqBlindWith_of_comm fun _ _ _ => rfl
  have hput (b : Bool) : IrqBlindWith fun w => if b = true then negPut w.tim.tcur w else (.none, w) :=
    irqBlindWith_ite (fun _ _ _ => Iff.rfl) (hword.bind negPut_irqBlind) (irqBlind_id.withResult _)
  have hdem := hheard.bind fun b => (hput b).bind fun ev => irqBlind_id.withResult (b, ev)
  simp only [pskDem_eq]
  exact hdem

/-! ### The datapumps -/

theorem dlFinish_irqBlind : IrqBlind dlFinish := by
  have hstate : IrqBlind fun s => { s with dial := { s.dial with dlstate := .finished } } :=
    irqBlind_of_comm fun _ _ _ => rfl
  exact (request_irqBlind (.dp .detector)).comp ((event_irqBlind .dialdone).comp hstate)

theorem dlToken_irqBlind (c : Byte) : IrqBlind (dlToken c) := by
  have hkey : IrqBlind fun s => { s with dial := { s.dial with dlstate := .dial } } :=
    irqBlind_of_comm fun _ _ _ => rfl
  have hpause : IrqBlind fun s => { s with
      dial := { s.dial with dlstate := .wait }
      det := { s.det with tmo := s.dial.dls8.toNat * Param.fs } } :=
    irqBlind_of_comm fun _ _ _ => rfl
  cases hc : dtmfDecode c with
  | some rc =>
    have heq : dlToken c = fun s => dtmfKey rc.1 rc.2 { s with dial := { s.dial with dlstate := .dial } } := by
      funext s
      simp only [dlToken, hc]
    rw [heq]
    exact (dtmfKey_irqBlind rc.1 rc.2).comp hkey
  | none =>
    have heq : dlToken c = fun s => if c = 0x77 ∨ c = 0x2C then
        clearWindow { s with
          dial := { s.dial with dlstate := .wait }
          det := { s.det with tmo := s.dial.dls8.toNat * Param.fs } }
        else dlFinish s := by
      funext s
      simp only [dlToken, hc]
    rw [heq]
    exact irqBlind_ite (fun _ _ _ => Iff.rfl) (clearWindow_irqBlind.comp hpause) dlFinish_irqBlind

theorem dlFetch_irqBlind : IrqBlind dlFetch := by
  have hnext : IrqBlindWith fun s =>
      (s.dial.dialstr.read s.dial.dlpos, { s with dial := { s.dial with dlpos := s.dial.dlpos + 1 } }) :=
    irqBlindWith_of_comm fun _ _ _ => rfl
  exact irqBlind_ite (fun _ _ _ => Iff.rfl) dlFinish_irqBlind
    (hnext.bind fun c => (dlToken_irqBlind c).withResult ()).snd

/-- A detector step on the sample of cell `i`, which is no part of what is replaced. -/
theorem detStep_inSample_irqBlind (i : Nat) : IrqBlindWith fun s => detStep (inSample i s) s := by
  have hin : IrqBlindWith fun s => (inSample i s, s) := irqBlindWith_of_comm fun _ _ _ => rfl
  exact hin.bind detStep_irqBlind

theorem dialerWaitTurn_irqBlind (i : Nat) : IrqBlindWith (dialerWaitTurn i) := by
  have hafter (r : DetResult) : IrqBlindWith fun t =>
      if r = .timeout then (.stop, dlFetch t)
      else (Turn.more, if r = .hit then event .detect (setOut i 0 t) else setOut i 0 t) :=
    irqBlindWith_ite (fun _ _ _ => Iff.rfl) (dlFetch_irqBlind.withResult _)
      ((irqBlind_ite (fun _ _ _ => Iff.rfl) ((event_irqBlind .detect).comp (setOut_irqBlind i 0))
        (setOut_irqBlind i 0)).withResult _)
  exact (detStep_inSample_irqBlind i).bind hafter

theorem dialerToneTurn_irqBlind (i : Nat) : IrqBlindWith (dialerToneTurn i) :=
  irqBlindWith_ite (fun _ _ _ => Iff.rfl) (irqBlind_id.withResult _)
    (dtmfSample_irqBlind.bind fun y => (setOut_irqBlind i y).withResult _)

theorem sampleLoop_irqBlind (turn : Nat → State → Turn × State) (h : ∀ i, IrqBlindWith (turn i)) (left i : Nat) :
    IrqBlindWith (sampleLoop turn left i) := by
  induction left generalizing i with
  | zero => exact irqBlind_id.withResult i
  | succ j ih =>
    have hafter (k : Turn) : IrqBlindWith fun t =>
        match k with
        | .stop => (i, t)
        | .last => (i + 1, t)
        | .more => sampleLoop turn j (i + 1) t := by
      cases k with
      | stop => exact irqBlind_id.withResult i
      | last => exact irqBlind_id.withResult (i + 1)
      | more => exact ih (i + 1)
    convert (h i).bind hafter using 2 with s
    rw [sampleLoop.eq_2]
    rcases turn i s with ⟨_ | _ | _, t⟩ <;> rfl

theorem dialerProcess_irqBlind (n : Nat) : IrqBlindWith (dialerProcess n) := by
  have hdial : IrqBlindWith fun s => if s.dtrem = 0 then (0, dlFetch s) else sampleLoop dialerToneTurn n 0 s :=
    irqBlindWith_ite (fun _ _ _ => Iff.rfl) (dlFetch_irqBlind.withResult 0)
      (sampleLoop_irqBlind _ dialerToneTurn_irqBlind n 0)
  intro s
  have hsame (e m) : (s.withIrq e m).dial.dlstate = s.dial.dlstate := rfl
  cases hl : s.dial.dlstate with
  | wait =>
    obtain ⟨k, hk⟩ := sampleLoop_irqBlind _ dialerWaitTurn_irqBlind n 0 s
    exact ⟨k, fun e m => by simpa only [dialerProcess, hsame, hl] using hk e m⟩
  | dial =>
    obtain ⟨k, hk⟩ := hdial s
    exact ⟨k, fun e m => by simpa only [dialerProcess, hsame, hl] using hk e m⟩
  | finished =>
    obtain ⟨k, hk⟩ := irqBlind_id.withResult 0 s
    exact ⟨k, fun e m => by simpa only [dialerProcess, hsame, hl] using hk e m⟩

theorem detectorTurn_irqBlind (i : Nat) : IrqBlindWith (detectorTurn i) := by
  have hmode : IrqBlind fun u => request (modemOf u.ctl.mode) u := irqBlind_of_comm fun _ _ _ => rfl
  have hafter (r : DetResult) : IrqBlindWith fun t =>
      if r = .timeout then (.stop, request (.dp .none) (event .timeout t))
      else if r = .hit then (.last, request (modemOf t.ctl.mode) (event .detect (setOut i 0 t)))
      else (Turn.more, setOut i 0 t) :=
    irqBlindWith_ite (fun _ _ _ => Iff.rfl) (((request_irqBlind _).comp (event_irqBlind .timeout)).withResult _)
      (irqBlindWith_ite (fun _ _ _ => Iff.rfl)
        ((hmode.comp ((event_irqBlind .detect).comp (setOut_irqBlind i 0))).withResult _)
        ((setOut_irqBlind i 0).withResult _))
  exact (detStep_inSample_irqBlind i).bind hafter

theorem lineTimeout_irqBlind : IrqBlind lineTimeout := (request_irqBlind _).comp (event_irqBlind .timeout)

/-- The line timer reads neither register (R298). -/
theorem lineTimer_withIrq (s : State) (e m : BitVec 11) :
    lineTimer (s.withIrq e m) = (lineTimer s).map (State.withIrq e m) := by
  have hsame : (s.withIrq e m).sched = s.sched := rfl
  by_cases hc : s.sched.connect
  · simp [lineTimer, hsame, hc]
  · by_cases hl : s.sched.lt = 0
    · simp [lineTimer, hsame, hc, hl]
    · simp [lineTimer, hsame, hc, hl]
      rfl

/-- A turn of a modem datapump: the time-out, or a sample under the line timer. -/
theorem modemTurn_irqBlind {sample : State → Turn × State} (h : IrqBlindWith sample) : IrqBlindWith fun s =>
    match lineTimer s with
    | none => (.stop, lineTimeout s)
    | some t => sample t := by
  intro s
  cases hl : lineTimer s with
  | none =>
    obtain ⟨k, hk⟩ := lineTimeout_irqBlind s
    exact ⟨k, fun e m => by simp only [lineTimer_withIrq, hl, Option.map_none, hk]⟩
  | some t =>
    obtain ⟨k, hk⟩ := h t
    exact ⟨k, fun e m => by simp only [lineTimer_withIrq, hl, Option.map_some, hk]⟩

/-- A sample of a modem: its modulator, the output cell, its demodulator on the input cell. -/
theorem modemSample_irqBlind {α : Type} (i : Nat) {mod : State → Int × State} {dem : Int → State → α × State}
    (hmod : IrqBlindWith mod) (hdem : ∀ x, IrqBlindWith (dem x)) :
    IrqBlindWith fun s => dem (inSample i s) (setOut i (mod s).1 (mod s).2) := by
  have hin : IrqBlindWith fun s => (inSample i s, s) := irqBlindWith_of_comm fun _ _ _ => rfl
  have hout (x y : Int) : IrqBlindWith fun t => dem x (setOut i y t) := (hdem x).comp (setOut_irqBlind i y)
  exact hin.bind fun x => hmod.bind (hout x)

theorem fskEvent_irqBlind (ev : CarrierEvent) : IrqBlindWith (fskEvent ev) := by
  cases ev with
  | none => exact irqBlind_id.withResult _
  | cd => exact ((event_irqBlind .connect).comp (setConnect_irqBlind true)).withResult _
  | lost =>
    exact ((request_irqBlind _).comp ((event_irqBlind .cdlost).comp (setConnect_irqBlind false))).withResult _

theorem fskSample_irqBlind (i : Nat) : IrqBlindWith (fskSample i) := by
  have hsample := (modemSample_irqBlind i fskMod_irqBlind fskDem_irqBlind).map Prod.snd irqBlind_id
  unfold fskSample
  exact hsample

theorem fskTurn_irqBlind (i : Nat) : IrqBlindWith (fskTurn i) := by
  have hturn := modemTurn_irqBlind ((fskSample_irqBlind i).bind fskEvent_irqBlind)
  unfold fskTurn
  exact hturn

theorem pskEvent_irqBlind (ev : NegEvent) : IrqBlind (pskEvent ev) := by
  cases ev with
  | none => exact irqBlind_id
  | scr => exact irqBlind_id
  | data => exact (event_irqBlind .connect).comp (setConnect_irqBlind true)
  | fail => exact event_irqBlind .negfail

theorem pskSample_irqBlind (i : Nat) : IrqBlindWith (pskSample i) := by
  have hsample := (modemSample_irqBlind i pskMod_irqBlind pskDem_irqBlind).map Prod.snd irqBlind_id
  unfold pskSample
  exact hsample

theorem pskTurn_irqBlind (i : Nat) : IrqBlindWith (pskTurn i) := by
  have hturn := modemTurn_irqBlind ((pskSample_irqBlind i).bind fun ev => (pskEvent_irqBlind ev).withResult Turn.more)
  unfold pskTurn
  exact hturn

theorem dpProcess_irqBlind (n : Nat) : IrqBlindWith (dpProcess n) := by
  intro s
  have hsame (e m) : (s.withIrq e m).sched.dp = s.sched.dp := rfl
  cases hdp : s.sched.dp with
  | none =>
    obtain ⟨k, hk⟩ := irqBlind_id.withResult 0 s
    exact ⟨k, fun e m => by simpa only [dpProcess, hsame, hdp] using hk e m⟩
  | dialer =>
    obtain ⟨k, hk⟩ := dialerProcess_irqBlind n s
    exact ⟨k, fun e m => by simpa only [dpProcess, hsame, hdp] using hk e m⟩
  | detector =>
    obtain ⟨k, hk⟩ := sampleLoop_irqBlind _ detectorTurn_irqBlind n 0 s
    exact ⟨k, fun e m => by simpa only [dpProcess, hsame, hdp] using hk e m⟩
  | fsk =>
    obtain ⟨k, hk⟩ := sampleLoop_irqBlind _ fskTurn_irqBlind n 0 s
    exact ⟨k, fun e m => by simpa only [dpProcess, hsame, hdp] using hk e m⟩
  | psk =>
    obtain ⟨k, hk⟩ := sampleLoop_irqBlind _ pskTurn_irqBlind n 0 s
    exact ⟨k, fun e m => by simpa only [dpProcess, hsame, hdp] using hk e m⟩

theorem zeroFill_irqBlind (left i : Nat) : IrqBlind (zeroFill left i) := by
  induction left generalizing i with
  | zero => exact irqBlind_id
  | succ j ih => exact (ih (i + 1)).comp (setOut_irqBlind i 0)

/-- A creation reads neither register (R293). -/
theorem create_withIrq (x : Target) (s : State) (e m : BitVec 11) :
    create x (s.withIrq e m) = (create x s).map (State.withIrq e m) := by
  cases x with
  | invalid => rfl
  | dp d => cases d <;> rfl

theorem release_irqBlind : IrqBlind release := irqBlind_of_comm fun _ _ _ => rfl

/-- A failed creation adds CREATEFAIL (R294). -/
theorem createFailed_irqBlind : IrqBlind createFailed := by
  have hnext : IrqBlind fun s => { s with sched := { s.sched with next := .dp .none } } :=
    irqBlind_of_comm fun _ _ _ => rfl
  unfold createFailed
  exact release_irqBlind.comp (hnext.comp (event_irqBlind .createfail))

/-- Every switch adds SWITCH (R294). -/
theorem switched_irqBlind : IrqBlind switched := fun _ => ⟨Event.switch.mask, fun _ _ => rfl⟩

theorem applySwitch_irqBlind : IrqBlind applySwitch := by
  intro s
  have hsame (e m) : (s.withIrq e m).sched.next = s.sched.next := rfl
  rcases applySwitch_cases s with ⟨hn, he⟩ | ⟨hn, he⟩ | ⟨d, u, hn, hc, he⟩ <;> rw [he]
  · obtain ⟨k, hk⟩ := switched_irqBlind.comp release_irqBlind s
    exact ⟨k, fun e m => by rw [applySwitch_none ((hsame e m).trans hn)]; exact hk e m⟩
  · obtain ⟨k, hk⟩ := switched_irqBlind.comp createFailed_irqBlind s
    exact ⟨k, fun e m => by rw [applySwitch_invalid ((hsame e m).trans hn)]; exact hk e m⟩
  · obtain ⟨k, hk⟩ := switched_irqBlind (activate d u)
    refine ⟨k, fun e m => ?_⟩
    rw [applySwitch_created ((hsame e m).trans hn) (by rw [create_withIrq, hc]; rfl)]
    exact hk e m

/-- A block: its samples, the zero fill, and the switch where one is requested (R296). -/
theorem process_irqBlind (n : Nat) :
    IrqBlindWith fun s => (((process n s).produced, (process n s).switched), (process n s).after) := by
  have hfill (p : Nat) : IrqBlindWith fun t => (p, zeroFill (n - p) p t) := (zeroFill_irqBlind (n - p) p).withResult p
  have hswitch (p : Nat) : IrqBlindWith fun u =>
      if u.sched.pend = true then ((p, true), applySwitch u) else ((p, false), u) :=
    irqBlindWith_ite (fun _ _ _ => Iff.rfl) (applySwitch_irqBlind.withResult _) (irqBlind_id.withResult _)
  convert ((dpProcess_irqBlind n).bind hfill).bind hswitch using 2 with s
  unfold process
  dsimp only
  split <;> rfl

/-! ### The commands -/

/-- A command is blind if it answers a next state whatever EVT and IEN are, always the same but for them. -/
def IrqBlindCommand (c : State → Result) : Prop :=
  ∀ s : State, ∃ (t : State) (k : BitVec 11), ∀ e m, c (s.withIrq e m) = .next (t.withIrq (e ||| k) m)

namespace IrqBlindCommand

theorem done {f : State → State} {v : State → Value} (hf : IrqBlind f) (hv : ∀ s e m, v (s.withIrq e m) = v s) :
    IrqBlindCommand fun s => done (v s) (f s) := by
  intro s
  obtain ⟨k, hk⟩ := hf s
  exact ⟨{ f s with resp := some (okWord (v s)) }, k, fun e m => by simp only [hk, hv]; rfl⟩

theorem raise (err : CmdError) : IrqBlindCommand (raise err) :=
  fun s => ⟨{ s with resp := some (errWord err) }, Event.cmderr.mask, fun _ _ => rfl⟩

/-- A procedure with a result, and then what the command does with it. -/
theorem bind {α : Type} {f : State → α × State} {c : α → State → Result} (hf : IrqBlindWith f)
    (hc : ∀ a, IrqBlindCommand (c a)) : IrqBlindCommand fun s => c (f s).1 (f s).2 := by
  intro s
  obtain ⟨k, hk⟩ := hf s
  obtain ⟨t, l, hl⟩ := hc (f s).1 (f s).2
  exact ⟨t, k ||| l, fun e m => by simp only [hk, hl, BitVec.or_assoc]⟩

theorem ite {p : State → Prop} [DecidablePred p] {c d : State → Result} (hp : ∀ s e m, p (s.withIrq e m) ↔ p s)
    (hc : IrqBlindCommand c) (hd : IrqBlindCommand d) : IrqBlindCommand fun s => if p s then c s else d s := by
  intro s
  by_cases h : p s
  · obtain ⟨t, k, hk⟩ := hc s
    exact ⟨t, k, fun e m => by simp only [if_pos ((hp s e m).2 h), hk]⟩
  · obtain ⟨t, k, hk⟩ := hd s
    exact ⟨t, k, fun e m => by simp only [if_neg ((hp s e m).not.2 h), hk]⟩

theorem direct {c : State → Result} (hc : IrqBlindCommand c) : IrqBlindCommand fun s => direct s (c s) :=
  ite (fun _ _ _ => Iff.rfl) hc (raise .busy)

theorem inRange {α : Type} (o : Option α) {c : α → State → Result} (hc : ∀ x, o = some x → IrqBlindCommand (c x)) :
    IrqBlindCommand fun s => inRange o s fun x => c x s := by
  cases o with
  | none => exact raise .range
  | some x => exact hc x rfl

end IrqBlindCommand

/-- The interrupt mask is the control register of index 1 (10_state.md R34). -/
theorem ctlOperand_ien {a : BitVec 8} (h : ctlOperand a = some .ien) : a = 1 := by
  revert a
  decide

theorem execWrc_irqBlind (a : BitVec 8) (b : BitVec 16) (ha : a ≠ 1) : IrqBlindCommand (execWrc a b) := by
  refine .ite (fun _ _ _ => Iff.rfl) (.raise .busy) (.inRange (ctlOperand a) fun r hr => ?_)
  refine .done (irqBlind_of_comm fun s e m => ?_) fun _ _ _ => rfl
  cases r with
  | ien => exact absurd (ctlOperand_ien hr) ha
  | mode => rfl
  | detmask => rfl
  | detfrq k => rfl

theorem execRdc_irqBlind (a : BitVec 8) (ha : a ≠ 1) : IrqBlindCommand (execRdc a) := by
  refine .inRange (ctlOperand a) fun r hr => .done irqBlind_id fun s e m => ?_
  cases r with
  | ien => exact absurd (ctlOperand_ien hr) ha
  | mode => rfl
  | detmask => rfl
  | detfrq k => rfl

theorem execDialc_irqBlind (b : BitVec 16) : IrqBlindCommand (execDialc b) :=
  .ite (fun _ _ _ => Iff.rfl) (.raise .busy)
    (.ite (fun _ _ _ => Iff.rfl) (.raise .full) (.done (irqBlind_of_comm fun _ _ _ => rfl) fun _ _ _ => rfl))

theorem execDialx_irqBlind : IrqBlindCommand execDialx :=
  .ite (fun _ _ _ => Iff.rfl) (.raise .busy) (.done (irqBlind_of_comm fun _ _ _ => rfl) fun _ _ _ => rfl)

theorem execDtk_irqBlind (b : BitVec 16) : IrqBlindCommand (execDtk b) := by
  refine .direct ?_
  cases dtmfDecode (bLow8 b) with
  | none => exact .raise .badkey
  | some rc => exact .done (dtmfKey_irqBlind rc.1 rc.2) fun _ _ _ => rfl

theorem execTxch_irqBlind (b : BitVec 16) : IrqBlindCommand (execTxch b) := by
  intro s
  have hsame (e m) : (s.withIrq e m).txfifo = s.txfifo := rfl
  cases hp : s.txfifo.push (bLow8 b) with
  | none =>
    obtain ⟨t, k, hk⟩ := IrqBlindCommand.raise .full s
    exact ⟨t, k, fun e m => by simpa only [execTxch, hsame, hp] using hk e m⟩
  | some f =>
    exact ⟨{ s with txfifo := f, resp := some (okWord 0) }, 0#11, fun e m => by
      simp only [execTxch, hsame, hp, BitVec.or_zero]; rfl⟩

theorem execRxch_irqBlind : IrqBlindCommand execRxch := by
  intro s
  have hsame (e m) : (s.withIrq e m).rxfifo = s.rxfifo := rfl
  cases hp : s.rxfifo.pop with
  | none =>
    exact ⟨{ s with resp := some (okWord 0) }, 0#11, fun e m => by
      simp only [execRxch, hsame, hp, BitVec.or_zero]; rfl⟩
  | some cf =>
    exact ⟨{ s with rxfifo := cf.2, resp := some (okWord (0#15 ++ 1#1 ++ cf.1)) }, 0#11, fun e m => by
      simp only [execRxch, hsame, hp, BitVec.or_zero]; rfl⟩

theorem execDets_irqBlind (b : BitVec 16) : IrqBlindCommand (execDets b) := by
  have hbody := IrqBlindCommand.bind (c := fun r t => done (0#16 ++ t.det.detected ++ r.code) t)
    (detStep_irqBlind (sampleOf b)) fun _ => .done irqBlind_id fun _ _ _ => rfl
  unfold execDets
  exact hbody.direct

theorem execDts_irqBlind : IrqBlindCommand execDts := by
  have hfin : IrqBlindWith fun s => (decide (s.dtrem = 0), s) := irqBlindWith_of_comm fun _ _ _ => rfl
  have hsample (fin : Bool) := IrqBlindCommand.bind (c := fun y t => done (0#7 ++ BitVec.ofBool fin ++ lo16 y) t)
    dtmfSample_irqBlind fun _ => .done irqBlind_id fun _ _ _ => rfl
  have hbody := IrqBlindCommand.bind hfin hsample
  unfold execDts
  exact hbody.direct

theorem execFskd_irqBlind (b : BitVec 16) : IrqBlindCommand (execFskd b) := by
  have hanswer (r : Bool × CarrierEvent) : IrqBlindCommand fun t =>
      done ((BitVec.ofBool r.1).setWidth 24 ||| (t.tim.tcur.setWidth 24 <<< 1) |||
        ((BitVec.ofBool t.fsk.fcd).setWidth 24 <<< 2)) t :=
    .done irqBlind_id fun _ _ _ => rfl
  have hbody := IrqBlindCommand.bind (fskDem_irqBlind (sampleOf b)) hanswer
  unfold execFskd
  exact hbody.direct

theorem execPskd_irqBlind (b : BitVec 16) : IrqBlindCommand (execPskd b) := by
  have hanswer (r : Bool × NegEvent) : IrqBlindCommand fun t =>
      done (0#19 ++ t.neg.ph.id ++ t.tim.tcur ++ BitVec.ofBool r.1) t :=
    .done irqBlind_id fun _ _ _ => rfl
  have hbody := IrqBlindCommand.bind (pskDem_irqBlind (sampleOf b)) hanswer
  unfold execPskd
  exact hbody.direct

/-- A command that answers a sample (R181, R208, R211, R212). -/
theorem sampleCommand_irqBlind {f : State → Int × State} (hf : IrqBlindWith f) :
    IrqBlindCommand fun s => direct s (done ((lo16 (f s).1).setWidth 24) (f s).2) :=
  .direct (.bind (c := fun y t => done ((lo16 y).setWidth 24) t) hf fun _ => .done irqBlind_id fun _ _ _ => rfl)

theorem execFskm_irqBlind : IrqBlindCommand execFskm := by
  have hbody := sampleCommand_irqBlind fskMod_irqBlind
  unfold execFskm
  exact hbody

theorem execPskm_irqBlind : IrqBlindCommand execPskm := by
  have hbody := sampleCommand_irqBlind pskMod_irqBlind
  unfold execPskm
  exact hbody

theorem execFirt_irqBlind (b : BitVec 16) : IrqBlindCommand (execFirt b) := by
  have hbody := sampleCommand_irqBlind (firTx_irqBlind (sampleOf b))
  unfold execFirt
  exact hbody

theorem execFirr_irqBlind (b : BitVec 16) : IrqBlindCommand (execFirr b) := by
  have hbody := sampleCommand_irqBlind (firRx_irqBlind (sampleOf b))
  unfold execFirr
  exact hbody

theorem execBqp_irqBlind (a : BitVec 8) (b : BitVec 16) : IrqBlindCommand (execBqp a b) := by
  have hbody (n : Nat) := IrqBlindCommand.bind (c := fun d t => done (BitVec.ofNat 24 d) t) (bqRxPut_irqBlind n b)
    fun _ => .done irqBlind_id fun _ _ _ => rfl
  unfold execBqp
  exact .direct (.inRange (bitCountOperand a) fun n _ => hbody n)

theorem execBqg_irqBlind (a : BitVec 8) : IrqBlindCommand (execBqg a) := by
  have hbody (n : Nat) := IrqBlindCommand.bind (c := fun (r : BitVec 16) t => done (r.setWidth 24) t)
    (bqTxGet_irqBlind n) fun _ => .done irqBlind_id fun _ _ _ => rfl
  unfold execBqg
  exact .direct (.inRange (bitCountOperand a) fun n _ => hbody n)

theorem execProc_irqBlind (b : BitVec 16) : IrqBlindCommand (execProc b) := by
  have hanswer (r : Nat × Bool) : IrqBlindCommand fun t =>
      done (0#5 ++ t.sched.dp.id ++ 0#3 ++ BitVec.ofBool r.2 ++ BitVec.ofNat 12 r.1) t :=
    .done irqBlind_id fun _ _ _ => rfl
  have hbody (n : Nat) := IrqBlindCommand.bind (process_irqBlind n) hanswer
  unfold execProc
  exact .inRange (blockCountOperand b) fun n _ => hbody n

theorem execStep_irqBlind (b : BitVec 16) : IrqBlindCommand (execStep b) := by
  have hin : IrqBlind (setIn 0 b) := irqBlind_of_comm fun _ _ _ => rfl
  have hanswer (r : Nat × Bool) : IrqBlindCommand fun t =>
      done (0#6 ++ BitVec.ofBool r.2 ++ BitVec.ofNat 1 r.1 ++ t.outbuf.read 0) t :=
    .done irqBlind_id fun _ _ _ => rfl
  have hbody := IrqBlindCommand.bind ((process_irqBlind 1).comp hin) hanswer
  unfold execStep
  exact hbody

/-- The three commands that request a switch at once (R311 to R313). -/
theorem switchCommand_irqBlind {f : State → State} {v : State → Value} (hf : IrqBlind f)
    (hv : ∀ s e m, v (s.withIrq e m) = v s) :
    IrqBlindCommand fun s => done (v (applySwitch (f s))) (applySwitch (f s)) :=
  .bind (f := fun s => ((), applySwitch (f s))) (c := fun _ t => done (v t) t)
    ((applySwitch_irqBlind.comp hf).withResult ()) fun _ => .done irqBlind_id hv

theorem execOrig_irqBlind : IrqBlindCommand execOrig := by
  have hseize : IrqBlind fun s => request (.dp .dialer)
      { s with sched := { s.sched with dir := .originator, offhook := true } } :=
    irqBlind_of_comm fun _ _ _ => rfl
  exact .direct (switchCommand_irqBlind (v := fun t => t.sched.dp.id.setWidth 24) hseize fun _ _ _ => rfl)

theorem execAnsw_irqBlind : IrqBlindCommand execAnsw := by
  have hseize : IrqBlind fun s => request (modemOf s.ctl.mode)
      { s with sched := { s.sched with dir := .answerer, offhook := true } } :=
    irqBlind_of_comm fun _ _ _ => rfl
  exact .direct (switchCommand_irqBlind (v := fun t => t.sched.dp.id.setWidth 24) hseize fun _ _ _ => rfl)

/-- A direct command whose response depends on neither register. -/
theorem directCommand_irqBlind {f : State → State} {v : State → Value}
    (hf : ∀ s e m, f (s.withIrq e m) = (f s).withIrq e m)
    (hv : ∀ s e m, v (s.withIrq e m) = v s) : IrqBlindCommand fun s => direct s (done (v s) (f s)) :=
  .direct (.done (irqBlind_of_comm hf) hv)

/-- An oscillator command whose response depends on neither register. -/
theorem oscCommand_irqBlind (a : BitVec 8) {f : Fin 12 → State → State} {v : Fin 12 → State → Value}
    (hf : ∀ i s e m, f i (s.withIrq e m) = (f i s).withIrq e m) (hv : ∀ i s e m, v i (s.withIrq e m) = v i s) :
    IrqBlindCommand fun s => withOsc a s fun i => done (v i s) (f i s) :=
  .direct (.inRange (oscOperand a) fun i _ => .done (irqBlind_of_comm (hf i)) (hv i))

/-- Every command but the reads and writes of EVT and IEN themselves and RESET is blind to both. -/
theorem exec_irqBlind (i : Instr) (hwrc : ∀ b, i ≠ .wrc 1 b) (hrdc : i ≠ .rdc 1) (hrdev : i ≠ .rdev)
    (hreset : i ≠ .reset) : IrqBlindCommand (exec i) := by
  cases i with
  | nop => exact .done irqBlind_id fun _ _ _ => rfl
  | reset => exact absurd rfl hreset
  | wrs a b => exact .inRange (sOperand a) fun i _ => .done (irqBlind_of_comm fun _ _ _ => rfl) fun _ _ _ => rfl
  | rds a => exact .inRange (sOperand a) fun i _ => .done irqBlind_id fun _ _ _ => rfl
  | wrc a b => exact execWrc_irqBlind a b fun ha => hwrc b (by rw [ha])
  | rdc a => exact execRdc_irqBlind a fun ha => hrdc (by rw [ha])
  | rdst => exact .done irqBlind_id fun _ _ _ => rfl
  | rdev => exact absurd rfl hrdev
  | dialc b => exact execDialc_irqBlind b
  | dialx => exact execDialx_irqBlind
  | orig => exact execOrig_irqBlind
  | answ => exact execAnsw_irqBlind
  | hup => exact switchCommand_irqBlind (v := fun _ => 0) (request_irqBlind (.dp .none)) fun _ _ _ => rfl
  | wrin a b => exact .done (irqBlind_of_comm fun _ _ _ => rfl) fun _ _ _ => rfl
  | rdout a => exact .done irqBlind_id fun _ _ _ => rfl
  | proc b => exact execProc_irqBlind b
  | step b => exact execStep_irqBlind b
  | txch b => exact execTxch_irqBlind b
  | rxch => exact execRxch_irqBlind
  | oscp a b => exact oscCommand_irqBlind a (fun _ _ _ _ => rfl) fun _ _ _ _ => rfl
  | osci a b => exact oscCommand_irqBlind a (fun _ _ _ _ => rfl) fun _ _ _ _ => rfl
  | osca a => exact oscCommand_irqBlind a (fun _ _ _ _ => rfl) fun _ _ _ _ => rfl
  | oscc a => exact oscCommand_irqBlind a (fun _ _ _ _ => rfl) fun _ _ _ _ => rfl
  | oscs a => exact oscCommand_irqBlind a (fun _ _ _ _ => rfl) fun _ _ _ _ => rfl
  | oscr a => exact oscCommand_irqBlind a (fun _ _ _ _ => rfl) fun _ _ _ _ => rfl
  | deti => exact .direct (.done detInit_irqBlind fun _ _ _ => rfl)
  | dett a b => exact directCommand_irqBlind (fun _ _ _ => rfl) fun _ _ _ => rfl
  | dets b => exact execDets_irqBlind b
  | detr => exact .done irqBlind_id fun _ _ _ => rfl
  | dtk b => exact execDtk_irqBlind b
  | dts => exact execDts_irqBlind
  | fski a => exact .direct (.done (fskInit_irqBlind _) fun _ _ _ => rfl)
  | fskm => exact execFskm_irqBlind
  | fskd b => exact execFskd_irqBlind b
  | pski a => exact .direct (.done (pskInit_irqBlind _) fun _ _ _ => rfl)
  | pskm => exact execPskm_irqBlind
  | pskd b => exact execPskd_irqBlind b
  | firt b => exact execFirt_irqBlind b
  | firr b => exact execFirr_irqBlind b
  | mape a => exact .done irqBlind_id fun _ _ _ => rfl
  | mapd a => exact .done irqBlind_id fun _ _ _ => rfl
  | scri => exact directCommand_irqBlind (fun _ _ _ => rfl) fun _ _ _ => rfl
  | scre a => exact directCommand_irqBlind (fun _ _ _ => rfl) fun _ _ _ => rfl
  | scrd a => exact directCommand_irqBlind (fun _ _ _ => rfl) fun _ _ _ => rfl
  | timi a b =>
    exact .direct (.inRange (rateOperand b) fun r _ => .done (irqBlind_of_comm fun _ _ _ => rfl) fun _ _ _ => rfl)
  | tims a => exact directCommand_irqBlind (fun _ _ _ => rfl) fun _ _ _ => rfl
  | bqi => exact .direct (.done bqInit_irqBlind fun _ _ _ => rfl)
  | bqp a b => exact execBqp_irqBlind a b
  | bqg a => exact execBqg_irqBlind a
  | ffst => exact .done irqBlind_id fun _ _ _ => rfl
  | ffcl => exact .done (irqBlind_of_comm fun _ _ _ => rfl) fun _ _ _ => rfl

/-! ### The statements about EVT and IEN -/

/-- The write of IEN is never refused (R303). -/
theorem execWrc_ien (b : BitVec 16) (s : State) :
    execWrc 1 b s = done 0 { s with ctl := { s.ctl with ien := bLow11 b } } := by
  have hien : ctlOperand 1 = some .ien := by decide
  rw [execWrc, if_neg fun h => h.1 rfl, hien]
  rfl

/-- The read of IEN (R304). -/
theorem execRdc_ien (s : State) : execRdc 1 s = done (s.ctl.ien.setWidth 24) s := by
  have hien : ctlOperand 1 = some .ien := by decide
  rw [execRdc, hien]
  rfl

/-- Settles O13: every command but RDEV and RESET is blind to EVT, the two on IEN among them. -/
theorem eventsNeverChangeWhatACommandDoes : Obligations.EventsNeverChangeWhatACommandDoes := by
  unfold Obligations.EventsNeverChangeWhatACommandDoes
  intro i s hrdev hreset
  by_cases hwrc : ∃ b, i = .wrc 1 b
  · obtain ⟨b, rfl⟩ := hwrc
    refine ⟨{ s with ctl := { s.ctl with ien := bLow11 b }, resp := some (okWord 0) }, 0#11, fun e => ?_⟩
    exact (execWrc_ien b _).trans (by rw [BitVec.or_zero]; rfl)
  · by_cases hrdc : i = .rdc 1
    · subst hrdc
      refine ⟨{ s with resp := some (okWord (s.ctl.ien.setWidth 24)) }, 0#11, fun e => ?_⟩
      exact (execRdc_ien _).trans (by rw [BitVec.or_zero]; rfl)
    · obtain ⟨t, k, ht⟩ := exec_irqBlind i (fun b h => hwrc ⟨b, h⟩) hrdc hrdev hreset s
      exact ⟨{ t with ctl := { t.ctl with ien := s.ctl.ien } }, k, fun e => ht e s.ctl.ien⟩

/-- IRQ is up where an event and its mask bit meet (R28). -/
theorem irq_iff (s : State) : irq s = true ↔ ∃ k, k < 11 ∧ s.evt.getLsbD k = true ∧ s.ctl.ien.getLsbD k = true := by
  constructor
  · intro h
    by_contra hnone
    refine absurd (BitVec.eq_of_getLsbD_eq (y := 0#11) fun k hk => ?_) (bne_iff_ne.1 h)
    rw [BitVec.getLsbD_and, BitVec.getLsbD_zero, Bool.and_eq_false_iff, ← Bool.not_eq_true, ← Bool.not_eq_true,
      ← not_and_or]
    exact fun hboth => hnone ⟨k, hk, hboth⟩
  · rintro ⟨k, -, he, hm⟩
    refine bne_iff_ne.2 fun hzero => ?_
    have hbit : (s.evt &&& s.ctl.ien).getLsbD k = true := by rw [BitVec.getLsbD_and, he, hm, Bool.and_self]
    rw [hzero] at hbit
    exact absurd hbit (by simp)

/-- Settles O14: IRQ is the level of R28, and every command but those of IEN and RESET is blind to IEN. -/
theorem interruptMaskOnlyGatesIrq : Obligations.InterruptMaskOnlyGatesIrq := by
  unfold Obligations.InterruptMaskOnlyGatesIrq
  refine ⟨irq_iff, fun i s hwrc hrdc hreset => ?_⟩
  by_cases hrdev : i = .rdev
  · subst hrdev
    exact ⟨{ s with evt := 0, resp := some (okWord (s.evt.setWidth 24)) }, fun m => rfl⟩
  · obtain ⟨t, k, ht⟩ := exec_irqBlind i hwrc hrdc hrdev hreset s
    exact ⟨{ t with evt := s.evt ||| k }, fun m => ht s.evt m⟩

end Sys2Proof.Machine
end

section
/-! Parameters.lean: which commands change the host's parameters and DP (10_state.md R26, R27, R32, R34, 20_memory.md
R61, R62), and the statements about the reset state and the reads of STATUS and EVT. -/

namespace Sys2Proof.Machine

/-! ### What the procedures leave to the host -/

/-- The host's parameters and buffers and what it still presents are the same in `s` and `t`. -/
structure KeepsParameters (s t : State) : Prop where
  port : t.port = s.port := by rfl
  sreg : t.sreg = s.sreg := by rfl
  ctl : t.ctl = s.ctl := by rfl
  inbuf : t.inbuf = s.inbuf := by rfl
  dialstr : t.dial.dialstr = s.dial.dialstr := by rfl

theorem KeepsParameters.trans {s t u : State} (h : KeepsParameters s t) (k : KeepsParameters t u) :
    KeepsParameters s u :=
  ⟨k.port.trans h.port, k.sreg.trans h.sreg, k.ctl.trans h.ctl, k.inbuf.trans h.inbuf, k.dialstr.trans h.dialstr⟩

theorem KeepsBlock.parameters {s t : State} (h : KeepsBlock s t) : KeepsParameters s t :=
  ⟨h.port, h.sreg, h.ctl, h.inbuf, h.dialstr⟩

theorem create_keepsParameters {d : Datapump} {s t : State} (h : create (.dp d) s = some t) : KeepsParameters s t := by
  cases d with
  | none => cases h
  | dialer => cases h; exact {}
  | detector => cases h; exact {}
  | fsk => cases h; exact {}
  | psk => cases h; exact {}

theorem applySwitch_keepsParameters (s : State) : KeepsParameters s (applySwitch s) := by
  rcases applySwitch_cases s with ⟨-, he⟩ | ⟨-, he⟩ | ⟨d, u, -, hc, he⟩ <;> rw [he]
  · exact {}
  · exact {}
  · exact (create_keepsParameters hc).trans {}

/-- Bit 9 of EVT is up after every switch (R294). -/
theorem switched_evt (s : State) : (switched s).evt.getLsbD 9 = true := by
  show (s.evt ||| Event.switch.mask).getLsbD 9 = true
  rw [BitVec.getLsbD_or, getLsbD_mask]
  simp [Event.bit]

theorem applySwitch_evt (s : State) : (applySwitch s).evt.getLsbD 9 = true := by
  rcases applySwitch_cases s with ⟨-, he⟩ | ⟨-, he⟩ | ⟨d, u, -, -, he⟩ <;> rw [he]
  · exact switched_evt _
  · exact switched_evt _
  · exact switched_evt _

/-- A block without its switch keeps the parameters and DP (R296). -/
theorem filled_keepsBlock (n : Nat) (s : State) :
    KeepsBlock s (zeroFill (n - (dpProcess n s).1) (dpProcess n s).1 (dpProcess n s).2) := by
  obtain ⟨m, he⟩ := zeroFill_frame (n - (dpProcess n s).1) (dpProcess n s).1 (dpProcess n s).2
  rw [he]
  exact (dpProcess_keeps n s).trans ⟨rfl, rfl, rfl, rfl, rfl, rfl, rfl, rfl, rfl, rfl, rfl⟩

theorem process_keepsParameters (n : Nat) (s : State) : KeepsParameters s (process n s).after := by
  have hfill := (filled_keepsBlock n s).parameters
  unfold process
  dsimp only
  split
  · exact hfill.trans (applySwitch_keepsParameters _)
  · exact hfill

/-- A block changes DP only by a switch. -/
theorem process_dp (n : Nat) (s : State) :
    (process n s).after.sched.dp = s.sched.dp ∨ (process n s).after.evt.getLsbD 9 = true := by
  have hdp := (filled_keepsBlock n s).dp
  unfold process
  dsimp only
  split
  · exact .inr (applySwitch_evt _)
  · exact .inl hdp

/-! ### What the commands leave to the host -/

/-- The commands that may switch the datapump (R294). -/
def Switches (i : Instr) : Prop :=
  i = .orig ∨ i = .answ ∨ i = .hup ∨ (∃ b, i = .proc b) ∨ (∃ b, i = .step b)

/-- What a command `i` other than RESET may do to the parameters and DP on the way from `s` to `t`. -/
structure Permits (i : Instr) (s t : State) : Prop where
  port : t.port = s.port := by rfl
  sreg : (∀ a b, i ≠ .wrs a b) → t.sreg = s.sreg := by exact fun _ => rfl
  ctl : (∀ a b, i ≠ .wrc a b) → t.ctl = s.ctl := by exact fun _ => rfl
  inbuf : (∀ a b, i ≠ .wrin a b) → (∀ b, i ≠ .step b) → t.inbuf = s.inbuf := by exact fun _ _ => rfl
  dialstr : (∀ b, i ≠ .dialc b) → t.dial.dialstr = s.dial.dialstr := by exact fun _ => rfl
  dp : t.sched.dp = s.sched.dp ∨ (Switches i ∧ t.evt.getLsbD 9 = true) := by exact .inl rfl

theorem permits_ignoresAnswer (i : Instr) : IgnoresAnswer (Permits i) where
  refl _ := {}
  resp _ _ _ h := { h with }
  error _ t h := { h with
    dp := h.dp.imp id fun ⟨hi, hevt⟩ => ⟨hi, by rw [event_evt, BitVec.getLsbD_or, hevt, Bool.true_or]⟩ }

theorem KeepsParameters.permits {i : Instr} {s t : State} (h : KeepsParameters s t)
    (hdp : t.sched.dp = s.sched.dp ∨ (Switches i ∧ t.evt.getLsbD 9 = true)) : Permits i s t :=
  ⟨h.port, fun _ => h.sreg, fun _ => h.ctl, fun _ _ => h.inbuf, fun _ => h.dialstr, hdp⟩

theorem KeepsBlock.permits (i : Instr) {s t : State} (h : KeepsBlock s t) : Permits i s t :=
  h.parameters.permits (.inl h.dp)

/-- The three commands that request a switch at once. -/
theorem applySwitch_permits (i : Instr) (hi : Switches i) {s u : State} (h : KeepsParameters s u) :
    Permits i s (applySwitch u) :=
  (h.trans (applySwitch_keepsParameters u)).permits (.inr ⟨hi, applySwitch_evt u⟩)

theorem execWrc_permits (a : BitVec 8) (b : BitVec 16) (s : State) : EndsIn (Permits (.wrc a b) s) (execWrc a b s) := by
  have hR := permits_ignoresAnswer (.wrc a b)
  unfold execWrc
  split
  · exact hR.raise _ s
  · exact hR.inRange fun r _ => hR.done _ { ctl := fun h => absurd rfl (h a b) }

theorem execDialc_permits (b : BitVec 16) (s : State) : EndsIn (Permits (.dialc b) s) (execDialc b s) := by
  have hR := permits_ignoresAnswer (.dialc b)
  unfold execDialc
  split
  · exact hR.raise _ s
  · split
    · exact hR.raise _ s
    · exact hR.done _ { dialstr := fun h => absurd rfl (h b) }

theorem execDialx_permits (s : State) : EndsIn (Permits .dialx s) (execDialx s) := by
  have hR := permits_ignoresAnswer .dialx
  unfold execDialx
  split
  · exact hR.raise _ s
  · exact hR.done _ {}

theorem execDtk_permits (b : BitVec 16) (s : State) : EndsIn (Permits (.dtk b) s) (execDtk b s) := by
  have hR := permits_ignoresAnswer (.dtk b)
  refine hR.direct ?_
  split
  · exact hR.done _ {}
  · exact hR.raise _ s

theorem execTxch_permits (b : BitVec 16) (s : State) : EndsIn (Permits (.txch b) s) (execTxch b s) := by
  have hR := permits_ignoresAnswer (.txch b)
  unfold execTxch
  split
  · exact hR.done _ {}
  · exact hR.raise _ s

theorem execRxch_permits (s : State) : EndsIn (Permits .rxch s) (execRxch s) := by
  have hR := permits_ignoresAnswer .rxch
  unfold execRxch
  split
  · exact hR.done _ {}
  · exact hR.done _ {}

theorem detStep_permits (i : Instr) (x : Int) (s : State) : Permits i s (detStep x s).2 := by
  obtain ⟨o, d, he⟩ := detStep_frame x s
  rw [he]
  exact {}

theorem dtmfSample_permits (i : Instr) (s : State) : Permits i s (dtmfSample s).2 := by
  obtain ⟨o, r, he⟩ := dtmfSample_frame s
  rw [he]
  exact {}

theorem bqRxPut_permits (i : Instr) (n : Nat) (v : BitVec 16) (s : State) : Permits i s (bqRxPut n v s).2 := by
  obtain ⟨b, c, e, f, he⟩ := bqRxPut_frame n v s
  rw [he]
  exact {}

theorem bqTxGet_permits (i : Instr) (n : Nat) (s : State) : Permits i s (bqTxGet n s).2 := by
  obtain ⟨b, c, f, he⟩ := bqTxGet_frame n s
  rw [he]
  exact {}

/-- PROC writes no parameter, and DP only by a switch (R316). -/
theorem process_permits (i : Instr) (hi : Switches i) (n : Nat) (s : State) : Permits i s (process n s).after :=
  (process_keepsParameters n s).permits ((process_dp n s).imp id fun h => ⟨hi, h⟩)

/-- STEP writes a cell of INBUF and is a block of one sample (R317). -/
theorem step_permits (b : BitVec 16) (s : State) : Permits (.step b) s (process 1 (setIn 0 b s)).after := by
  have h := process_permits (.step b) (.inr (.inr (.inr (.inr ⟨b, rfl⟩)))) 1 (setIn 0 b s)
  exact { h with inbuf := fun _ hstep => absurd rfl (hstep b) }

/-- Every command but RESET changes the parameters and DP only as it may. -/
theorem exec_permits (i : Instr) (hreset : i ≠ .reset) (s : State) : EndsIn (Permits i s) (exec i s) := by
  have hR := permits_ignoresAnswer i
  cases i with
  | nop => exact hR.done _ {}
  | reset => exact absurd rfl hreset
  | wrs a b => exact hR.inRange fun i _ => hR.done _ { sreg := fun h => absurd rfl (h a b) }
  | rds a => exact hR.inRange fun i _ => hR.done _ {}
  | wrc a b => exact execWrc_permits a b s
  | rdc a => exact hR.inRange fun r _ => hR.done _ {}
  | rdst => exact hR.done _ {}
  | rdev => exact hR.done _ {}
  | dialc b => exact execDialc_permits b s
  | dialx => exact execDialx_permits s
  | orig => exact hR.direct (hR.done _ (applySwitch_permits .orig (.inl rfl) {}))
  | answ => exact hR.direct (hR.done _ (applySwitch_permits .answ (.inr (.inl rfl)) {}))
  | hup => exact hR.done _ (applySwitch_permits .hup (.inr (.inr (.inl rfl))) {})
  | wrin a b => exact hR.done _ { inbuf := fun h _ => absurd rfl (h a b) }
  | rdout a => exact hR.done _ {}
  | proc b => exact hR.inRange fun n _ => hR.done _ (process_permits _ (.inr (.inr (.inr (.inl ⟨b, rfl⟩)))) n s)
  | step b => exact hR.done _ (step_permits b s)
  | txch b => exact execTxch_permits b s
  | rxch => exact execRxch_permits s
  | oscp a b => exact hR.withOsc fun i => hR.done _ {}
  | osci a b => exact hR.withOsc fun i => hR.done _ {}
  | osca a => exact hR.withOsc fun i => hR.done _ {}
  | oscc a => exact hR.withOsc fun i => hR.done _ {}
  | oscs a => exact hR.withOsc fun i => hR.done _ {}
  | oscr a => exact hR.withOsc fun i => hR.done _ {}
  | deti => exact hR.direct (hR.done _ {})
  | dett a b => exact hR.direct (hR.done _ {})
  | dets b => exact hR.direct (hR.done _ (detStep_permits _ _ s))
  | detr => exact hR.done _ {}
  | dtk b => exact execDtk_permits b s
  | dts => exact hR.direct (hR.done _ (dtmfSample_permits _ s))
  | fski a => exact hR.direct (hR.done _ {})
  | fskm => exact hR.direct (hR.done _ ((fskMod_keeps s).block.permits _))
  | fskd b => exact hR.direct (hR.done _ ((fskDem_keeps _ s).block.permits _))
  | pski a => exact hR.direct (hR.done _ {})
  | pskm => exact hR.direct (hR.done _ ((pskMod_keeps s).block.permits _))
  | pskd b => exact hR.direct (hR.done _ ((pskDem_keeps _ s).block.permits _))
  | firt b => exact hR.direct (hR.done _ {})
  | firr b => exact hR.direct (hR.done _ {})
  | mape a => exact hR.done _ {}
  | mapd a => exact hR.done _ {}
  | scri => exact hR.direct (hR.done _ {})
  | scre a => exact hR.direct (hR.done _ {})
  | scrd a => exact hR.direct (hR.done _ {})
  | timi a b => exact hR.direct (hR.inRange fun r _ => hR.done _ {})
  | tims a => exact hR.direct (hR.done _ {})
  | bqi => exact hR.direct (hR.done _ {})
  | bqp a b => exact hR.direct (hR.inRange fun n _ => hR.done _ (bqRxPut_permits _ n b s))
  | bqg a => exact hR.direct (hR.inRange fun n _ => hR.done _ (bqTxGet_permits _ n s))
  | ffst => exact hR.done _ {}
  | ffcl => exact hR.done _ {}

/-- A command that is blind to EVT only adds events (10_state.md R27). -/
theorem exec_evt_grows {i : Instr} {s t : State} (hrdev : i ≠ .rdev) (hreset : i ≠ .reset) (h : exec i s = .next t) :
    t.evt ||| s.evt = t.evt := by
  obtain ⟨u, m, hu⟩ := eventsNeverChangeWhatACommandDoes i s hrdev hreset
  have he : exec i s = .next { u with evt := s.evt ||| m } := hu s.evt
  rw [he] at h
  cases h
  rw [BitVec.or_comm, ← BitVec.or_assoc, BitVec.or_self]

/-- Settles O15: every command but RESET changes the parameters and DP only as it may, and RESET keeps the port. -/
theorem parametersChangeOnlyByTheirCommands : Obligations.ParametersChangeOnlyByTheirCommands := by
  unfold Obligations.ParametersChangeOnlyByTheirCommands
  intro i s t ht
  by_cases hreset : i = .reset
  · subst hreset
    cases ht
    exact ⟨rfl, fun h => absurd rfl h⟩
  · have h := exec_permits i hreset s t ht
    exact ⟨h.port, fun _ => ⟨h.sreg, h.ctl, h.inbuf, h.dialstr, fun hrdev => exec_evt_grows hrdev hreset ht,
      fun hdp => h.dp.resolve_left hdp⟩⟩

/-! ### The reset state (10_state.md R48) -/

/-- Settles O12: the reset state meets each of the five invariants, which are decidable. -/
theorem resetStateIsGood : Obligations.ResetStateIsGood := by
  unfold Obligations.ResetStateIsGood State.Inv
  exact ⟨by decide, reset_registerRanges, reset_widthsHold, by decide, by decide⟩

/-- Settles O24: each register by its table entry, the RAMs empty, and the init procedures run. -/
theorem resetStateIsTheTable : Obligations.ResetStateIsTheTable := by
  unfold Obligations.ResetStateIsTheTable
  refine ⟨rfl, rfl, rfl, rfl, rfl, by decide, by decide, rfl, rfl, by decide, by decide, rfl, rfl, rfl, rfl, rfl, rfl,
    rfl, fun i => ⟨rfl, rfl, rfl, rfl, rfl⟩, by decide, by decide⟩

/-! ### The reads of STATUS and EVT -/

/-- STATUS, field by field (10_state.md R30): under the eight zero bits of the response and above the fields below it,
each field is its register. -/
theorem status_fields (s : State) :
    (okWord (statusWord s)).extractLsb' 0 3 = s.sched.dp.id ∧
      (okWord (statusWord s)).extractLsb' 3 3 = s.sched.next.id ∧
      (okWord (statusWord s)).getLsbD 6 = s.sched.pend ∧ (okWord (statusWord s)).getLsbD 7 = s.sched.dir.bit ∧
      (okWord (statusWord s)).getLsbD 8 = s.sched.connect ∧ (okWord (statusWord s)).getLsbD 9 = s.sched.offhook ∧
      (okWord (statusWord s)).extractLsb' 10 2 = s.dial.dlstate.id ∧
      (okWord (statusWord s)).extractLsb' 12 2 = s.neg.ph.id ∧
      (okWord (statusWord s)).extractLsb' 14 2 = s.neg.txm.id ∧ (okWord (statusWord s)).getLsbD 16 = s.fsk.fcd ∧
      (okWord (statusWord s)).extractLsb' 17 4 = s.det.detected ∧ (okWord (statusWord s)).extractLsb' 21 11 = 0 := by
  unfold okWord statusWord
  refine ⟨?dp, ?next, ?pend, ?dir, ?connect, ?offhook, ?dlstate, ?ph, ?txm, ?fcd, ?detected, ?zero⟩
  case dp | next | dlstate | ph | txm | detected =>
    rw [BitVec.extractLsb'_append_eq_of_add_le (by decide)]
    repeat rw [BitVec.extractLsb'_append_eq_of_le (by decide)]
    rw [BitVec.extractLsb'_append_eq_of_add_le (by decide), BitVec.extractLsb'_eq_self]
  case pend | dir | connect | offhook | fcd =>
    rw [BitVec.getLsbD_append, if_pos (by decide)]
    repeat rw [BitVec.getLsbD_append, if_neg (by decide)]
    rw [BitVec.getLsbD_append, if_pos (by decide), BitVec.getLsbD_ofBool]
    rfl
  case zero =>
    refine BitVec.eq_of_getLsbD_eq fun i hi => ?_
    rw [BitVec.getLsbD_extractLsb', BitVec.getLsbD_append]
    split
    · repeat rw [BitVec.getLsbD_append, if_neg (by omega)]
      simp
    · simp

/-- Settles O22: RDST answers the word of STATUS, RDEV EVT, which it clears. -/
theorem statusAndEventReads : Obligations.StatusAndEventReads := by
  unfold Obligations.StatusAndEventReads
  exact fun s => ⟨⟨okWord (statusWord s), rfl, status_fields s⟩, done_eq_setWidth _ _⟩

end Sys2Proof.Machine
end

section
/-! Memories.lean: the canonical form of the five RAMs and DIALLEN (20_memory.md R60 to R63), memory by memory: each
procedure of the units keeps each of them. `KeepsMemories` collects the five, so that one lemma per procedure serves
them all. -/

namespace Sys2Proof.Machine

/-! ### What a procedure keeps -/

/-- DIALSTR is in canonical form and DIALLEN does not exceed it (R62). The two stand together because DIALC writes the
cell DIALLEN names. -/
def Dial.Canonical (l : Dial) : Prop := l.dialstr.wf Param.dialMax = true ∧ l.diallen ≤ Param.dialMax

/-- From `s` to `t` each of the five memories stays in canonical form. Each memory for itself. -/
structure KeepsMemories (s t : State) : Prop where
  dial : s.dial.Canonical → t.dial.Canonical := by exact id
  rx : s.rxfifo.cells.wf Param.fifoSize = true → t.rxfifo.cells.wf Param.fifoSize = true := by exact id
  tx : s.txfifo.cells.wf Param.fifoSize = true → t.txfifo.cells.wf Param.fifoSize = true := by exact id
  inbuf : s.inbuf.wf Param.blkMax = true → t.inbuf.wf Param.blkMax = true := by exact id
  outbuf : s.outbuf.wf Param.blkMax = true → t.outbuf.wf Param.blkMax = true := by exact id

namespace KeepsMemories

theorem refl (s : State) : KeepsMemories s s := {}

theorem trans {s t u : State} (h : KeepsMemories s t) (k : KeepsMemories t u) : KeepsMemories s u where
  dial := k.dial ∘ h.dial
  rx := k.rx ∘ h.rx
  tx := k.tx ∘ h.tx
  inbuf := k.inbuf ∘ h.inbuf
  outbuf := k.outbuf ∘ h.outbuf

theorem memoryCanonical {s t : State} (h : KeepsMemories s t) (hs : s.MemoryCanonical) : t.MemoryCanonical := by
  obtain ⟨hstr, hrx, htx, hin, hout, hlen⟩ := hs
  obtain ⟨hstr', hlen'⟩ := h.dial ⟨hstr, hlen⟩
  exact ⟨hstr', h.rx hrx, h.tx htx, h.inbuf hin, h.outbuf hout, hlen'⟩

end KeepsMemories

/-! ### The two sample buffers (20_memory.md R61) -/

theorem setIn_keepsMemories (i : Nat) (hi : i < Param.blkMax) (b : BitVec 16) (s : State) :
    KeepsMemories s (setIn i b s) where
  inbuf h := Memory.write_wf s.inbuf h i b hi

theorem setOut_keepsMemories (i : Nat) (hi : i < Param.blkMax) (y : Int) (s : State) :
    KeepsMemories s (setOut i y s) where
  outbuf h := Memory.write_wf s.outbuf h i (lo16 y) hi

/-- Filling a block with zeros keeps the memories if the block ends inside the buffer (R296). -/
theorem zeroFill_keepsMemories (left i : Nat) (h : i + left ≤ Param.blkMax) (s : State) :
    KeepsMemories s (zeroFill left i s) := by
  induction left generalizing i s with
  | zero => exact .refl s
  | succ j ih =>
    exact (setOut_keepsMemories i (by omega) 0 s).trans (ih (i + 1) (by omega) (setOut i 0 s))

/-- A sample loop over a block inside the buffer keeps the memories if each turn at an index of the buffer does. -/
theorem sampleLoop_keepsMemories (turn : Nat → State → Turn × State)
    (hturn : ∀ i < Param.blkMax, ∀ s, KeepsMemories s (turn i s).2) (n : Nat) (hn : n ≤ Param.blkMax) (s : State) :
    KeepsMemories s (sampleLoop turn n 0 s).2 := by
  have hstep (i : Nat) (t u : State) (k : Turn) (hi : i < n) (ht : KeepsMemories s t) (he : turn i t = (k, u)) :
      KeepsMemories s u := by
    have hu := hturn i (hi.trans_le hn) t
    rw [he] at hu
    exact ht.trans hu
  exact sampleLoop_inv_at (fun _ => KeepsMemories s) (KeepsMemories s) turn n (fun i t u => hstep i t u .stop)
    (fun i t u => hstep i t u .last) (fun i t u => hstep i t u .more) (fun _ h => h) n 0 s (Nat.zero_add n) (.refl s)

/-! ### The units without a memory of their own -/

theorem event_keepsMemories (e : Event) (s : State) : KeepsMemories s (event e s) := {}

theorem request_keepsMemories (x : Target) (s : State) : KeepsMemories s (request x s) := {}

theorem detStep_keepsMemories (x : Int) (s : State) : KeepsMemories s (detStep x s).2 := by
  obtain ⟨o, d, he⟩ := detStep_frame x s
  rw [he]
  exact {}

theorem dtmfSample_keepsMemories (s : State) : KeepsMemories s (dtmfSample s).2 := by
  obtain ⟨o, r, he⟩ := dtmfSample_frame s
  rw [he]
  exact {}

/-- The dialer reads the dial string and moves in it (R150). -/
theorem dlFetch_keepsMemories (s : State) : KeepsMemories s (dlFetch s) := by
  obtain ⟨l, k, n, p, e, o, d, r, he⟩ := dlFetch_frame s
  rw [he]
  exact {}

theorem lineTimer_keepsMemories {s t : State} (h : lineTimer s = some t) : KeepsMemories s t := by
  obtain ⟨l, rfl⟩ := lineTimer_frame h
  exact {}

theorem lineTimeout_keepsMemories (s : State) : KeepsMemories s (lineTimeout s) := {}

/-! ### The byte FIFOs (20_memory.md R63, 47_framing_fifo.md) -/

/-- A received frame goes through a push, or is dropped where RXFIFO is full (R263). -/
theorem rxDeliver_keepsMemories (fr : BitVec 10) (s : State) : KeepsMemories s (rxDeliver fr s) := by
  have hframing : KeepsMemories s (if fr.getLsbD 0 then s else event .framing s) := by
    split
    · exact .refl s
    · exact event_keepsMemories _ s
  unfold rxDeliver
  dsimp only
  split
  · rename_i f hpush
    exact hframing.trans { rx := Fifo.push_wf hpush }
  · exact hframing.trans (event_keepsMemories _ _)

theorem rxBit_keepsMemories (bit : Bool) (s : State) : KeepsMemories s (rxBit bit s).2 := by
  unfold rxBit
  split
  · rename_i fr q hq
    exact .trans (t := { s with bq := q }) {} (rxDeliver_keepsMemories fr _)
  · exact {}

theorem bqRxPut_keepsMemories (n : Nat) (v : BitVec 16) (s : State) : KeepsMemories s (bqRxPut n v s).2 := by
  induction n generalizing s with
  | zero => exact .refl s
  | succ j ih => exact (rxBit_keepsMemories (v.getLsbD j) s).trans (ih _)

/-- The transmit framer takes its bytes by pops (R264). -/
theorem txFill_txCells (n : Nat) (s : State) : (txFill n s).txfifo.cells = s.txfifo.cells := by
  unfold txFill
  split
  · exact Fifo.pop_cells ‹_›
  · rfl

theorem bqTxGet_txCells (n : Nat) (s : State) : (bqTxGet n s).2.txfifo.cells = s.txfifo.cells := by
  have hfill (turns : Nat) : ∀ t : State, (txFillTo n turns t).txfifo.cells = t.txfifo.cells := by
    induction turns with
    | zero => exact fun _ => rfl
    | succ k ih =>
      intro t
      unfold txFillTo
      split
      · rw [ih, txFill_txCells]
      · rfl
  exact hfill n s

theorem bqTxGet_keepsMemories (n : Nat) (s : State) : KeepsMemories s (bqTxGet n s).2 := by
  have hcells := bqTxGet_txCells n s
  obtain ⟨b, c, f, he⟩ := bqTxGet_frame n s
  rw [he] at hcells ⊢
  exact { tx := fun h => hcells ▸ h }

/-! ### The modems (43_symbol_timing_fsk.md, 44_psk_modem.md, 46_psk_negotiation.md) -/

theorem fskPull_keepsMemories (s : State) : KeepsMemories s (fskPull s) := by
  unfold fskPull
  split
  · exact .trans (t := { s with fsk := { s.fsk with ftxacc := s.fsk.ftxacc - Param.fs } }) {}
      ((bqTxGet_keepsMemories 1 _).trans {})
  · exact .refl s

theorem fskMod_keepsMemories (s : State) : KeepsMemories s (fskMod s).2 :=
  (fskPull_keepsMemories s).trans {}

theorem fskHeard_keepsMemories (x : Int) (s : State) : KeepsMemories s (fskHeard x s) := {}

theorem fskDem_keepsMemories (x : Int) (s : State) : KeepsMemories s (fskDem x s).2.2 := by
  rw [fskDem_eq]
  dsimp only
  split
  · exact (fskHeard_keepsMemories x s).trans (bqRxPut_keepsMemories 1 _ _)
  · exact fskHeard_keepsMemories x s

theorem pskGetsym_keepsMemories (s : State) : KeepsMemories s (pskGetsym s).2 := by
  unfold pskGetsym
  split
  · exact {}
  · exact {}
  · split
    · exact {}
    · exact (bqTxGet_keepsMemories 2 s).trans {}

theorem pskPull_keepsMemories (s : State) : KeepsMemories s (pskPull s) := by
  unfold pskPull
  split
  · exact .trans (t := { s with psk := { s.psk with psymacc := s.psk.psymacc - Param.fs } }) {}
      ((pskGetsym_keepsMemories _).trans {})
  · exact .refl s

theorem pskMod_keepsMemories (s : State) : KeepsMemories s (pskMod s).2 :=
  (pskPull_keepsMemories s).trans {}

/-- Of the four phases only DATA hands bits to the receive framer (R242). -/
theorem negPut_keepsMemories (sym : BitVec 2) (s : State) : KeepsMemories s (negPut sym s).2 := by
  unfold negPut
  split
  · exact .trans (t := { s with scr := (scrDecDibit sym s.scr).2 }) {} (bqRxPut_keepsMemories 2 _ _)
  · exact .refl s
  · exact {}
  · exact {}

theorem pskHeard_keepsMemories (x : Int) (s : State) : KeepsMemories s (pskHeard x s) := {}

theorem pskDem_keepsMemories (x : Int) (s : State) : KeepsMemories s (pskDem x s).2.2 := by
  rw [pskDem_eq]
  dsimp only
  split
  · exact (pskHeard_keepsMemories x s).trans (negPut_keepsMemories _ _)
  · exact pskHeard_keepsMemories x s

/-! ### The datapumps (48_scheduler_host.md) -/

theorem dialerWaitTurn_keepsMemories (i : Nat) (hi : i < Param.blkMax) (s : State) :
    KeepsMemories s (dialerWaitTurn i s).2 := by
  have hstep := detStep_keepsMemories (inSample i s) s
  unfold dialerWaitTurn
  dsimp only
  split
  · exact hstep.trans (dlFetch_keepsMemories _)
  · have hout := hstep.trans (setOut_keepsMemories i hi 0 _)
    split
    · exact hout.trans (event_keepsMemories _ _)
    · exact hout

theorem dialerToneTurn_keepsMemories (i : Nat) (hi : i < Param.blkMax) (s : State) :
    KeepsMemories s (dialerToneTurn i s).2 := by
  unfold dialerToneTurn
  split
  · exact .refl s
  · exact (dtmfSample_keepsMemories s).trans (setOut_keepsMemories i hi _ _)

theorem dialerProcess_keepsMemories (n : Nat) (hn : n ≤ Param.blkMax) (s : State) :
    KeepsMemories s (dialerProcess n s).2 := by
  unfold dialerProcess
  split
  · exact .refl s
  · exact sampleLoop_keepsMemories _ dialerWaitTurn_keepsMemories n hn s
  · split
    · exact dlFetch_keepsMemories s
    · exact sampleLoop_keepsMemories _ dialerToneTurn_keepsMemories n hn s

theorem detectorTurn_keepsMemories (i : Nat) (hi : i < Param.blkMax) (s : State) :
    KeepsMemories s (detectorTurn i s).2 := by
  have hstep := detStep_keepsMemories (inSample i s) s
  unfold detectorTurn
  dsimp only
  split
  · exact hstep.trans ((event_keepsMemories _ _).trans (request_keepsMemories _ _))
  · have hout := hstep.trans (setOut_keepsMemories i hi 0 _)
    split
    · exact hout.trans ((event_keepsMemories _ _).trans (request_keepsMemories _ _))
    · exact hout

theorem fskSample_keepsMemories (i : Nat) (hi : i < Param.blkMax) (s : State) :
    KeepsMemories s (fskSample i s).2 :=
  (fskMod_keepsMemories s).trans ((setOut_keepsMemories i hi _ _).trans (fskDem_keepsMemories _ _))

theorem fskEvent_keepsMemories (ev : CarrierEvent) (s : State) : KeepsMemories s (fskEvent ev s).2 := by
  cases ev with
  | none => exact .refl s
  | cd => exact {}
  | lost => exact {}

theorem fskTurn_keepsMemories (i : Nat) (hi : i < Param.blkMax) (s : State) : KeepsMemories s (fskTurn i s).2 := by
  unfold fskTurn
  split
  · exact lineTimeout_keepsMemories s
  · exact (lineTimer_keepsMemories ‹_›).trans ((fskSample_keepsMemories i hi _).trans (fskEvent_keepsMemories _ _))

theorem pskSample_keepsMemories (i : Nat) (hi : i < Param.blkMax) (s : State) :
    KeepsMemories s (pskSample i s).2 :=
  (pskMod_keepsMemories s).trans ((setOut_keepsMemories i hi _ _).trans (pskDem_keepsMemories _ _))

theorem pskEvent_keepsMemories (ev : NegEvent) (s : State) : KeepsMemories s (pskEvent ev s) := by
  cases ev with
  | none => exact .refl s
  | scr => exact .refl s
  | data => exact {}
  | fail => exact {}

theorem pskTurn_keepsMemories (i : Nat) (hi : i < Param.blkMax) (s : State) : KeepsMemories s (pskTurn i s).2 := by
  unfold pskTurn
  split
  · exact lineTimeout_keepsMemories s
  · exact (lineTimer_keepsMemories ‹_›).trans ((pskSample_keepsMemories i hi _).trans (pskEvent_keepsMemories _ _))

theorem dpProcess_keepsMemories (n : Nat) (hn : n ≤ Param.blkMax) (s : State) :
    KeepsMemories s (dpProcess n s).2 := by
  unfold dpProcess
  split
  · exact .refl s
  · exact dialerProcess_keepsMemories n hn s
  · exact sampleLoop_keepsMemories _ detectorTurn_keepsMemories n hn s
  · exact sampleLoop_keepsMemories _ fskTurn_keepsMemories n hn s
  · exact sampleLoop_keepsMemories _ pskTurn_keepsMemories n hn s

/-! ### Switching and blocks -/

/-- The creation of a datapump writes no RAM (R293). -/
theorem create_keepsMemories {d : Datapump} {s t : State} (h : create (.dp d) s = some t) : KeepsMemories s t := by
  cases d with
  | none => cases h
  | dialer => cases h; exact {}
  | detector => cases h; exact {}
  | fsk => cases h; exact {}
  | psk => cases h; exact {}

theorem applySwitch_keepsMemories (s : State) : KeepsMemories s (applySwitch s) := by
  rcases applySwitch_cases s with ⟨-, he⟩ | ⟨-, he⟩ | ⟨d, u, -, hc, he⟩ <;> rw [he]
  · exact {}
  · exact {}
  · exact (create_keepsMemories hc).trans {}

/-- A block inside the buffers keeps the memories: the samples produced and the zeros after them end where the block
does (R296). -/
theorem process_keepsMemories (n : Nat) (hn : n ≤ Param.blkMax) (s : State) :
    KeepsMemories s (process n s).after := by
  have hcount : (dpProcess n s).1 + (n - (dpProcess n s).1) ≤ Param.blkMax := by
    have := dpProcess_count n s
    omega
  have hfill := (dpProcess_keepsMemories n hn s).trans (zeroFill_keepsMemories _ _ hcount _)
  unfold process
  dsimp only
  split
  · exact hfill.trans (applySwitch_keepsMemories _)
  · exact hfill

/-! ### The commands and the step -/

theorem keepsMemories_ignoresAnswer : IgnoresAnswer KeepsMemories where
  refl := .refl
  resp _ _ _ h := h.trans {}
  error _ _ h := h.trans (event_keepsMemories _ _)

/-- The reset state's memories are canonical, whatever was before (R48). -/
theorem reset_keepsMemories (s : State) (port : List HostInput) :
    KeepsMemories s { State.reset with port := port } := by
  obtain ⟨hstr, hrx, htx, hin, hout⟩ := reset_memoryCanonical
  exact ⟨fun _ => ⟨hstr, Nat.zero_le _⟩, fun _ => hrx, fun _ => htx, fun _ => hin, fun _ => hout⟩

/-- DIALC is FULL at 64 bytes, so the cell it writes is inside the dial string (R309). -/
theorem execDialc_keepsMemories (b : BitVec 16) (s : State) : EndsIn (KeepsMemories s) (execDialc b s) := by
  have hR := keepsMemories_ignoresAnswer
  unfold execDialc
  split
  · exact hR.raise _ s
  · split
    · exact hR.raise _ s
    · rename_i hfull
      refine hR.done _ { dial := fun h => ?_ }
      obtain ⟨hstr, hlen⟩ := h
      have hroom : s.dial.diallen < Param.dialMax := lt_of_le_of_ne hlen hfull
      exact ⟨Memory.write_wf _ hstr _ _ hroom, hroom⟩

theorem execDialx_keepsMemories (s : State) : EndsIn (KeepsMemories s) (execDialx s) := by
  have hR := keepsMemories_ignoresAnswer
  unfold execDialx
  split
  · exact hR.raise _ s
  · exact hR.done _ { dial := fun h => ⟨h.1, Nat.zero_le _⟩ }

theorem execTxch_keepsMemories (b : BitVec 16) (s : State) : EndsIn (KeepsMemories s) (execTxch b s) := by
  have hR := keepsMemories_ignoresAnswer
  unfold execTxch
  split
  · exact hR.done _ { tx := Fifo.push_wf ‹_› }
  · exact hR.raise _ s

theorem execRxch_keepsMemories (s : State) : EndsIn (KeepsMemories s) (execRxch s) := by
  have hR := keepsMemories_ignoresAnswer
  unfold execRxch
  split
  · rename_i c f hpop
    exact hR.done _ { rx := fun h => Fifo.pop_cells hpop ▸ h }
  · exact hR.done _ (.refl s)

theorem execWrc_keepsMemories (a : BitVec 8) (b : BitVec 16) (s : State) :
    EndsIn (KeepsMemories s) (execWrc a b s) := by
  have hR := keepsMemories_ignoresAnswer
  unfold execWrc
  split
  · exact hR.raise _ s
  · exact hR.inRange fun r _ => hR.done _ {}

theorem execDtk_keepsMemories (b : BitVec 16) (s : State) : EndsIn (KeepsMemories s) (execDtk b s) := by
  have hR := keepsMemories_ignoresAnswer
  refine hR.direct ?_
  split
  · exact hR.done _ {}
  · exact hR.raise _ s

/-- A legal block ends inside the sample buffers (R316). -/
theorem blockCountOperand_le {b : BitVec 16} {n : Nat} (h : blockCountOperand b = some n) : n ≤ Param.blkMax := by
  unfold blockCountOperand at h
  split at h
  · rename_i hb
    cases h
    exact hb.2
  · cases h

/-- Every command keeps every memory in canonical form. -/
theorem exec_keepsMemories (i : Instr) (s : State) : EndsIn (KeepsMemories s) (exec i s) := by
  have hR := keepsMemories_ignoresAnswer
  cases i with
  | nop => exact hR.done _ {}
  | reset => exact hR.done _ (reset_keepsMemories s s.port)
  | wrs a b => exact hR.inRange fun i _ => hR.done _ {}
  | rds a => exact hR.inRange fun i _ => hR.done _ {}
  | wrc a b => exact execWrc_keepsMemories a b s
  | rdc a => exact hR.inRange fun r _ => hR.done _ {}
  | rdst => exact hR.done _ {}
  | rdev => exact hR.done _ {}
  | dialc b => exact execDialc_keepsMemories b s
  | dialx => exact execDialx_keepsMemories s
  | orig =>
    exact hR.direct (hR.done _ (.trans (t := request (.dp .dialer)
      { s with sched := { s.sched with dir := .originator, offhook := true } }) {} (applySwitch_keepsMemories _)))
  | answ =>
    exact hR.direct (hR.done _ (.trans (t := request (modemOf s.ctl.mode)
      { s with sched := { s.sched with dir := .answerer, offhook := true } }) {} (applySwitch_keepsMemories _)))
  | hup => exact hR.done _ ((request_keepsMemories _ s).trans (applySwitch_keepsMemories _))
  | wrin a b => exact hR.done _ (setIn_keepsMemories _ a.isLt b s)
  | rdout a => exact hR.done _ {}
  | proc b => exact hR.inRange fun n hn => hR.done _ (process_keepsMemories n (blockCountOperand_le hn) s)
  | step b =>
    exact hR.done _ ((setIn_keepsMemories 0 (by decide) b s).trans (process_keepsMemories 1 (by decide) _))
  | txch b => exact execTxch_keepsMemories b s
  | rxch => exact execRxch_keepsMemories s
  | oscp a b => exact hR.withOsc fun i => hR.done _ {}
  | osci a b => exact hR.withOsc fun i => hR.done _ {}
  | osca a => exact hR.withOsc fun i => hR.done _ {}
  | oscc a => exact hR.withOsc fun i => hR.done _ {}
  | oscs a => exact hR.withOsc fun i => hR.done _ {}
  | oscr a => exact hR.withOsc fun i => hR.done _ {}
  | deti => exact hR.direct (hR.done _ {})
  | dett a b => exact hR.direct (hR.done _ {})
  | dets b => exact hR.direct (hR.done _ (detStep_keepsMemories _ s))
  | detr => exact hR.done _ {}
  | dtk b => exact execDtk_keepsMemories b s
  | dts => exact hR.direct (hR.done _ (dtmfSample_keepsMemories s))
  | fski a => exact hR.direct (hR.done _ {})
  | fskm => exact hR.direct (hR.done _ (fskMod_keepsMemories s))
  | fskd b => exact hR.direct (hR.done _ (fskDem_keepsMemories _ s))
  | pski a => exact hR.direct (hR.done _ {})
  | pskm => exact hR.direct (hR.done _ (pskMod_keepsMemories s))
  | pskd b => exact hR.direct (hR.done _ (pskDem_keepsMemories _ s))
  | firt b => exact hR.direct (hR.done _ {})
  | firr b => exact hR.direct (hR.done _ {})
  | mape a => exact hR.done _ {}
  | mapd a => exact hR.done _ {}
  | scri => exact hR.direct (hR.done _ {})
  | scre a => exact hR.direct (hR.done _ {})
  | scrd a => exact hR.direct (hR.done _ {})
  | timi a b => exact hR.direct (hR.inRange fun r _ => hR.done _ {})
  | tims a => exact hR.direct (hR.done _ {})
  | bqi => exact hR.direct (hR.done _ {})
  | bqp a b => exact hR.direct (hR.inRange fun n _ => hR.done _ (bqRxPut_keepsMemories n b s))
  | bqg a => exact hR.direct (hR.inRange fun n _ => hR.done _ (bqTxGet_keepsMemories n s))
  | ffst => exact hR.done _ {}
  | ffcl => exact hR.done _ {}

/-- What taking an input, the reset and every command relate, every step relates (R81, R370). -/
theorem step_endsIn {R : State → State → Prop} (hR : IgnoresAnswer R) (htrans : ∀ s t u, R s t → R t u → R s u)
    (htake : ∀ s rest, R s { s with port := rest }) (hreset : ∀ s rest, R s { State.reset with port := rest })
    (hexec : ∀ i s, EndsIn (R s) (exec i s)) (s : State) : EndsIn (R s) (step s) := by
  intro t ht
  rcases step_cases s with he | ⟨rest, he⟩ | ⟨i, rest, he⟩ | ⟨rest, he⟩ <;> rw [he] at ht
  · cases ht
    exact hR.refl s
  · cases ht
    exact hreset s rest
  · exact htrans _ _ _ (htake s rest) (hexec i _ t ht)
  · exact htrans _ _ _ (htake s rest) (hR.raise .illegal _ t ht)

/-- Every step keeps every memory in canonical form. -/
theorem step_keepsMemories (s : State) : EndsIn (KeepsMemories s) (step s) :=
  step_endsIn keepsMemories_ignoresAnswer (fun _ _ _ => .trans) (fun _ _ => {}) reset_keepsMemories
    exec_keepsMemories s

/-- Settles O7: each step keeps each of the five memories in canonical form. -/
theorem memoriesStayCanonical : Obligations.MemoriesStayCanonical := by
  unfold Obligations.MemoriesStayCanonical
  exact fun s t hs ht => (step_keepsMemories s t ht).memoryCanonical hs

end Sys2Proof.Machine
end

section
/-! Encoding.lean: decoding, opcode by opcode and usage class by usage class (30_encoding.md R80, R86 to R89), and what a
step makes of the next host input (R81, R87, 70_reset_and_hazards.md R370, R373). -/

namespace Sys2Proof

/-! ### The fields of a command word (R80) -/

theorem opField_eq (w : Word) : opField w = (w >>> 24).setWidth 8 :=
  BitVec.eq_of_toNat_eq (by simp [opField])

theorem aField_eq (w : Word) : aField w = (w >>> 16).setWidth 8 :=
  BitVec.eq_of_toNat_eq (by simp [aField])

theorem bField_eq (w : Word) : bField w = w.setWidth 16 := (BitVec.setWidth_eq_extractLsb' (by decide)).symm

/-- The opcode is all there is above bit 23. -/
theorem opField_toNat (w : Word) : (opField w).toNat = (w >>> 24).toNat := by
  rw [opField_eq, BitVec.toNat_setWidth, BitVec.toNat_ushiftRight, Nat.shiftRight_eq_div_pow]
  have := w.isLt
  omega

/-! ### Decoding the three fields (R86, R88) -/

/-- A word decoded to a command has that command's opcode. -/
theorem eq_opcode_of_decodeFields {op a : BitVec 8} {b : BitVec 16} {i : Instr} (h : decodeFields op a b = .ok i) :
    op = opcode i := by
  unfold decodeFields at h
  split at h <;> cases h
  all_goals exact BitVec.eq_of_toNat_eq ‹_›

/-- Behind its own opcode a command is read from the operand fields its usage class has, and from those alone. -/
theorem decodeFields_opcode_iff (i : Instr) (a : BitVec 8) (b : BitVec 16) :
    decodeFields (opcode i) a b = .ok i ↔ (usesA i = true → a = operandA i) ∧ (usesB i = true → b = operandB i) := by
  cases i
  case nop | reset | rdst | rdev | dialx | orig | answ | hup | rxch | deti | detr | dts | fskm | pskm | scri | bqi |
      ffst | ffcl =>
    exact ⟨fun _ => ⟨nofun, nofun⟩, fun _ => rfl⟩
  case rds | rdc | rdout | osca | oscc | oscs | oscr | fski | pski | mape | mapd | scre | scrd | tims | bqg =>
    refine ⟨fun h => ⟨fun _ => ?_, nofun⟩, fun h => ?_⟩
    · cases h
      rfl
    · rw [h.1 rfl]
      rfl
  case dialc | proc | step | txch | dets | dtk | fskd | pskd | firt | firr =>
    refine ⟨fun h => ⟨nofun, fun _ => ?_⟩, fun h => ?_⟩
    · cases h
      rfl
    · rw [h.2 rfl]
      rfl
  case wrs | wrc | wrin | oscp | osci | dett | timi | bqp =>
    refine ⟨fun h => ?_, fun h => ?_⟩
    · cases h
      exact ⟨fun _ => rfl, fun _ => rfl⟩
    · rw [h.1 rfl, h.2 rfl]
      rfl

/-- What the decoder reads as a command, field by field. -/
theorem decodeFields_eq_ok_iff (op a : BitVec 8) (b : BitVec 16) (i : Instr) :
    decodeFields op a b = .ok i ↔
      op = opcode i ∧ (usesA i = true → a = operandA i) ∧ (usesB i = true → b = operandB i) := by
  constructor
  · intro h
    obtain rfl := eq_opcode_of_decodeFields h
    exact ⟨rfl, (decodeFields_opcode_iff i a b).1 h⟩
  · rintro ⟨rfl, hfields⟩
    exact (decodeFields_opcode_iff i a b).2 hfields

/-- The words that are no command are those whose opcode the table does not list (R87). -/
theorem decodeFields_eq_error_iff (op a : BitVec 8) (b : BitVec 16) (r : Reject) :
    decodeFields op a b = .error r ↔ r = .illegalOpcode op ∧ op.toNat ∉ legalOpcodes.map BitVec.toNat := by
  unfold decodeFields
  split
  case h_52 =>
    refine ⟨fun h => ?_, fun h => by rw [h.1]⟩
    cases h
    simp only [imp_false] at *
    simp [legalOpcodes, *]
  all_goals exact ⟨nofun, fun h => absurd (by rw [‹op.toNat = _›]; decide) h.2⟩

/-! ### What a step makes of the next input (R81, R370, R373) -/

namespace Machine

theorem step_idle {s : State} (hport : s.port = []) : step s = .next s := by
  simp [step, fetch, hport]

theorem step_resetInput {s : State} {rest : List HostInput} (hport : s.port = .resetInput :: rest) :
    step s = .next { State.reset with port := rest } := by
  simp [step, fetch, hport, hardReset]

theorem step_command {s : State} {w : Word} {rest : List HostInput} {i : Instr} (hport : s.port = .command w :: rest)
    (hw : decode w = .ok i) : step s = exec i { s with port := rest } := by
  simp [step, fetch, hport, hw]

/-- A word that is no command answers ILLEGAL (R87). -/
theorem step_illegal {s : State} {w : Word} {rest : List HostInput} {r : Reject} (hport : s.port = .command w :: rest)
    (hw : decode w = .error r) : step s = errorAnswer .illegal { s with port := rest } := by
  simp [step, fetch, hport, hw, raise_eq_errorAnswer]

end Machine

theorem decode_of_decodeTableWord {w : Nat} {i : Instr} (h : decodeTableWord 32 w = some i) :
    decode (BitVec.ofNat 32 (w % 2 ^ 32)) = .ok i := by
  unfold decodeTableWord at h
  split at h
  · rename_i j hj
    cases h
    exact hj
  · cases h

/-! ### The statements -/

open Machine

/-- Settles O1: the three fields of the word are the ones packed into it, and the command is read from them. -/
theorem decodeEncodeRoundTrip : Obligations.DecodeEncodeRoundTrip := by
  unfold Obligations.DecodeEncodeRoundTrip
  intro i
  obtain ⟨hop, ha, hb⟩ := Laws.fields_encode i
  rw [decode, hop, ha, hb, decodeFields_opcode_iff]
  exact ⟨fun _ => rfl, fun _ => rfl⟩

/-- Settles O2: what the decoder reads, in the fields' own places in the word. -/
theorem decodeReadsExactlyTheUsedFields : Obligations.DecodeReadsExactlyTheUsedFields := by
  unfold Obligations.DecodeReadsExactlyTheUsedFields
  intro w i
  rw [← opField_eq, ← aField_eq, ← bField_eq]
  exact decodeFields_eq_ok_iff _ _ _ _

/-- Settles O3: each of the nine ranges avoids the table, so a word of it is decoded to no command. -/
theorem illegalOpcodesRaiseIllegal : Obligations.IllegalOpcodesRaiseIllegal := by
  unfold Obligations.IllegalOpcodesRaiseIllegal
  intro w rest s hport
  rw [← opField_toNat]
  refine ⟨fun hrange => ?_, fun hlegal => ?_⟩
  · have hunlisted : (opField w).toNat ∉ legalOpcodes.map BitVec.toNat := by
      generalize opField w = op at hrange
      revert op
      decide
    exact step_illegal hport ((decodeFields_eq_error_iff _ _ _ _).2 ⟨rfl, hunlisted⟩)
  · cases hw : decode w with
    | ok i => exact ⟨i, rfl⟩
    | error r => exact absurd hlegal ((decodeFields_eq_error_iff _ _ _ r).1 hw).2

/-- Settles O4: the thirteen words, decoded and encoded one by one. -/
theorem workedEncodingsDecode : Obligations.WorkedEncodingsDecode := by
  unfold Obligations.WorkedEncodingsDecode
  decide

/-- Settles O5: the next input is a word, nothing or the reset input; `withFetchWord` presents a word. -/
theorem stepExecutesTheNextHostInput : Obligations.StepExecutesTheNextHostInput := by
  unfold Obligations.StepExecutesTheNextHostInput
  refine ⟨fun _ _ _ _ => step_command, fun s w i _ hw => ?_, fun _ => step_idle, fun _ _ => step_resetInput⟩
  have hport : (s.withFetchWord 32 w).port = .command (BitVec.ofNat 32 (w % 2 ^ 32)) :: s.port.tail := rfl
  exact step_command hport (decode_of_decodeTableWord hw)

end Sys2Proof
end

section
/-! CommandErrors.lean: which error a command reports (60_exceptions.md R351, R352): each row of the table against the
check the command makes, and the checks in their order. -/

namespace Sys2Proof.Machine

/-! ### The rows of the table, command by command (R351) -/

/-- The commands refused in active mode are BUSY exactly there; the two of the dial string are not among them. -/
theorem failsBusy_iff {i : Instr} (hi : refusedWhileActive i) (s : State) : failsBusy i s ↔ s.sched.dp ≠ .none := by
  constructor
  · rintro (⟨-, hactive⟩ | ⟨-, hdialer⟩)
    · exact hactive
    · rw [hdialer]
      decide
  · exact fun hactive => .inl ⟨hi, hactive⟩

/-- A command with legal operands has no RANGE row: each row is the failure of the command's own check. -/
theorem not_failsRange {i : Instr} (hi : i.wellFormed = true) : ¬ failsRange i := by
  rintro (⟨a, ha, ⟨b, rfl⟩ | ⟨b, rfl⟩ | rfl | rfl | rfl | rfl⟩ | ⟨a, ha, ⟨b, rfl⟩ | rfl⟩ | ⟨a, ha, ⟨b, rfl⟩ | rfl⟩ |
    ⟨b, hb, rfl⟩ | ⟨a, b, hb, rfl⟩ | ⟨a, ha, ⟨b, rfl⟩ | rfl⟩)
  all_goals
    simp only [Instr.wellFormed, oscIndexOk, sIndexOk, ctlIndexOk, blockCountOk, rateOk, bitCountOk, Param.blkMax,
      Param.fs, Bool.and_eq_true, decide_eq_true_eq] at hi
    omega

/-- A command with legal operands has no BADKEY row. -/
theorem not_failsBadkey {i : Instr} (hi : i.wellFormed = true) : ¬ failsBadkey i := by
  rintro ⟨b, rfl, hkey⟩
  exact hkey (List.contains_iff_mem.1 hi)

/-- No command refused in active mode has a FULL row. -/
theorem not_failsFull {i : Instr} (hi : refusedWhileActive i) (s : State) : ¬ failsFull i s := by
  rintro (⟨⟨b, rfl⟩, -⟩ | ⟨⟨b, rfl⟩, -⟩) <;> simp [refusedWhileActive, isDirect] at hi

/-! ### The checked operands (30_encoding.md R83, R351) -/

theorem oscOperand_eq_none_iff (a : BitVec 8) : oscOperand a = none ↔ 11 < a.toNat := by
  revert a
  decide

theorem sOperand_eq_none_iff (a : BitVec 8) : sOperand a = none ↔ 15 < a.toNat := by
  revert a
  decide

theorem ctlOperand_eq_none_iff (a : BitVec 8) : ctlOperand a = none ↔ 6 < a.toNat := by
  revert a
  decide

theorem bitCountOperand_eq_none_iff (a : BitVec 8) : bitCountOperand a = none ↔ a.toNat < 1 ∨ 16 < a.toNat := by
  revert a
  decide

theorem blockCountOperand_eq_none_iff (b : BitVec 16) :
    blockCountOperand b = none ↔ b.toNat < 1 ∨ 256 < b.toNat := by
  simp only [blockCountOperand, Param.blkMax, ite_eq_right_iff, reduceCtorEq, imp_false]
  omega

theorem rateOperand_eq_none_iff (b : BitVec 16) : rateOperand b = none ↔ b.toNat < 1 ∨ 8000 < b.toNat := by
  simp only [rateOperand, Param.fs, ite_eq_right_iff, reduceCtorEq, imp_false]
  omega

/-- A key is a character of R142. -/
theorem dtmfDecode_eq_none_iff (c : Byte) : dtmfDecode c = none ↔ c ∉ keyCharacters := by
  revert c
  decide

/-! ### The checks in their order (R352) -/

/-- `r` reports the first error of `rows` whose condition holds, with nothing else changed, and where none holds it
completes with ERR = 0. -/
def AnswersInOrder (s : State) (r : Result) : List (CmdError × Prop) → Prop
  | [] => ∃ (t : State) (v : Value), r = .next t ∧ t.resp = some (v.setWidth 32)
  | (e, p) :: rows => (p → r = errorAnswer e s) ∧ (¬ p → AnswersInOrder s r rows)

/-- The rows of the table for a command, in the order of the tests. -/
def errorRows (i : Instr) (s : State) : List (CmdError × Prop) :=
  [(.busy, failsBusy i s), (.range, failsRange i), (.badkey, failsBadkey i), (.full, failsFull i s)]

namespace AnswersInOrder

variable {s : State} {r : Result} {e : CmdError} {p : Prop} {rows : List (CmdError × Prop)}

theorem done (v : Value) (t : State) : AnswersInOrder s (done v t) [] :=
  ⟨_, v, done_eq_setWidth v t, rfl⟩

theorem reported (h : AnswersInOrder s r ((e, p) :: rows)) (hp : p) : r = errorAnswer e s :=
  h.1 hp

theorem passed (h : AnswersInOrder s r ((e, p) :: rows)) (hp : ¬ p) : AnswersInOrder s r rows :=
  h.2 hp

/-- A row that does not apply. -/
theorem skip (hp : ¬ p) (h : AnswersInOrder s r rows) : AnswersInOrder s r ((e, p) :: rows) :=
  ⟨fun hyes => absurd hyes hp, fun _ => h⟩

/-- A row that applies. -/
theorem raise (hp : p) : AnswersInOrder s (raise e s) ((e, p) :: rows) :=
  ⟨fun _ => raise_eq_errorAnswer e s, fun hno => absurd hp hno⟩

/-- A row tested by a condition. -/
theorem ite {c : Prop} [Decidable c] (hp : p ↔ c) (h : AnswersInOrder s r rows) :
    AnswersInOrder s (if c then Machine.raise e s else r) ((e, p) :: rows) := by
  split
  · exact raise (hp.2 ‹_›)
  · exact skip (hp.not.2 ‹_›) h

/-- The BUSY row of the direct commands, ORIG and ANSW. -/
theorem direct (hp : p ↔ s.sched.dp ≠ .none) (h : AnswersInOrder s r rows) :
    AnswersInOrder s (direct s r) ((.busy, p) :: rows) := by
  by_cases hdp : s.sched.dp = .none
  · rw [direct_idle s r hdp]
    exact skip (hp.not.2 (not_not.2 hdp)) h
  · rw [direct_active s r hdp]
    exact raise (hp.2 hdp)

/-- The RANGE row of a checked operand. -/
theorem inRange {α : Type} {o : Option α} {body : α → Result} (hp : p ↔ o = none)
    (h : ∀ x, AnswersInOrder s (body x) rows) : AnswersInOrder s (inRange o s body) ((.range, p) :: rows) := by
  cases o with
  | none => exact raise (hp.2 rfl)
  | some x => exact skip (hp.not.2 nofun) (h x)

/-- A command that makes no check. -/
theorem of_unchecked {i : Instr} (hbusy : ¬ failsBusy i s) (hwf : i.wellFormed = true) (hfull : ¬ failsFull i s)
    (h : AnswersInOrder s r []) : AnswersInOrder s r (errorRows i s) :=
  skip hbusy (skip (not_failsRange hwf) (skip (not_failsBadkey hwf) (skip hfull h)))

/-- A command whose only check is that of its mode. -/
theorem of_direct {i : Instr} (hi : refusedWhileActive i) (hwf : i.wellFormed = true) (h : AnswersInOrder s r []) :
    AnswersInOrder s (Machine.direct s r) (errorRows i s) :=
  direct (failsBusy_iff hi s)
    (skip (not_failsRange hwf) (skip (not_failsBadkey hwf) (skip (not_failsFull hi s) h)))

section
variable {i : Instr} {α : Type} {o : Option α} {body : α → Result} (hrange : failsRange i ↔ o = none)
  (hbadkey : ¬ failsBadkey i) (h : ∀ x, AnswersInOrder s (body x) [])
include hrange hbadkey h

/-- A command whose only check is that of its operand. -/
theorem of_inRange (hbusy : ¬ failsBusy i s) (hfull : ¬ failsFull i s) :
    AnswersInOrder s (Machine.inRange o s body) (errorRows i s) :=
  skip hbusy (inRange hrange fun x => skip hbadkey (skip hfull (h x)))

/-- A command that checks its mode and then its operand. -/
theorem of_direct_inRange (hi : refusedWhileActive i) :
    AnswersInOrder s (Machine.direct s (Machine.inRange o s body)) (errorRows i s) :=
  direct (failsBusy_iff hi s) (inRange hrange fun x => skip hbadkey (skip (not_failsFull hi s) (h x)))

end

end AnswersInOrder

/-! ### The commands -/

/-- WRC is refused in active mode for every index but that of IEN (R303). -/
theorem execWrc_answersInOrder (a : BitVec 8) (b : BitVec 16) (s : State) :
    AnswersInOrder s (execWrc a b s) (errorRows (.wrc a b) s) := by
  have hbusy : failsBusy (.wrc a b) s ↔ a ≠ 1 ∧ s.sched.dp ≠ .none := by
    simp [failsBusy, refusedWhileActive, isDirect]
  have hrange : failsRange (.wrc a b) ↔ ctlOperand a = none := by
    simp [failsRange, ctlOperand_eq_none_iff]
  exact .ite hbusy (.inRange hrange fun r => .skip (by simp [failsBadkey]) (.skip (by simp [failsFull]) (.done _ _)))

/-- DIALC is refused under the dialer, then where the dial string is full (R309). -/
theorem execDialc_answersInOrder (b : BitVec 16) (s : State) :
    AnswersInOrder s (execDialc b s) (errorRows (.dialc b) s) := by
  have hbusy : failsBusy (.dialc b) s ↔ s.sched.dp = .dialer := by
    simp [failsBusy, refusedWhileActive, isDirect]
  have hfull : failsFull (.dialc b) s ↔ s.dial.diallen = Param.dialMax := by
    simp [failsFull]
  exact .ite hbusy (.skip (not_failsRange rfl) (.skip (not_failsBadkey rfl) (.ite hfull (.done _ _))))

/-- DIALX is refused under the dialer (R310). -/
theorem execDialx_answersInOrder (s : State) : AnswersInOrder s (execDialx s) (errorRows .dialx s) := by
  have hbusy : failsBusy .dialx s ↔ s.sched.dp = .dialer := by
    simp [failsBusy, refusedWhileActive, isDirect]
  have hfull : ¬ failsFull .dialx s := by
    simp [failsFull]
  exact .ite hbusy (.skip (not_failsRange rfl) (.skip (not_failsBadkey rfl) (.skip hfull (.done _ _))))

/-- TXCH fails where its push finds no room (R269). -/
theorem execTxch_answersInOrder (b : BitVec 16) (s : State) :
    AnswersInOrder s (execTxch b s) (errorRows (.txch b) s) := by
  have hbusy : ¬ failsBusy (.txch b) s := by
    simp [failsBusy, refusedWhileActive, isDirect]
  have hfull : failsFull (.txch b) s ↔ s.txfifo.head + 1 = s.txfifo.tail := by
    rw [Fifo.full_iff_count]
    simp [failsFull]
  refine .skip hbusy (.skip (not_failsRange rfl) (.skip (not_failsBadkey rfl) ?_))
  unfold execTxch
  rcases s.txfifo.push_cases (bLow8 b) with ⟨hnoroom, he⟩ | ⟨hroom, he⟩ <;> rw [he]
  · exact .raise (hfull.2 hnoroom)
  · exact .skip (hfull.not.2 hroom) (.done _ _)

/-- RXCH completes on an empty ring too (R270). -/
theorem execRxch_answersInOrder (s : State) : AnswersInOrder s (execRxch s) [] := by
  unfold execRxch
  split <;> exact .done _ _

/-- DTK fails on a byte that is no key, after BUSY (R145). -/
theorem execDtk_answersInOrder (b : BitVec 16) (s : State) :
    AnswersInOrder s (execDtk b s) (errorRows (.dtk b) s) := by
  have hi : refusedWhileActive (.dtk b) := .inl rfl
  have hrange : ¬ failsRange (.dtk b) := by
    simp [failsRange]
  have hbadkey : failsBadkey (.dtk b) ↔ dtmfDecode (bLow8 b) = none := by
    simp [failsBadkey, dtmfDecode_eq_none_iff, bLow8]
  refine .direct (failsBusy_iff hi s) (.skip hrange ?_)
  cases hkey : dtmfDecode (bLow8 b) with
  | none => exact .raise (hbadkey.2 hkey)
  | some rc => exact .skip (by simp [hbadkey, hkey]) (.skip (not_failsFull hi s) (.done _ _))

/-- Every command makes the checks of its rows, in their order. -/
theorem exec_answersInOrder (i : Instr) (s : State) : AnswersInOrder s (exec i s) (errorRows i s) := by
  cases i
  case nop | reset | rdst | rdev | hup | wrin | rdout | step | detr | mape | mapd | ffst | ffcl =>
    exact .of_unchecked (by simp [failsBusy, refusedWhileActive, isDirect]) rfl (by simp [failsFull]) (.done _ _)
  case rxch =>
    exact .of_unchecked (by simp [failsBusy, refusedWhileActive, isDirect]) rfl (by simp [failsFull])
      (execRxch_answersInOrder s)
  case orig => exact .of_direct (.inr (.inr (.inl rfl))) rfl (.done _ _)
  case answ => exact .of_direct (.inr (.inr (.inr rfl))) rfl (.done _ _)
  case deti | dett | dets | dts | fski | fskm | fskd | pski | pskm | pskd | firt | firr | scri | scre | scrd | tims |
      bqi =>
    exact .of_direct (.inl rfl) rfl (.done _ _)
  case wrs | rds | rdc | proc =>
    exact .of_inRange
      (by simp [failsRange, sOperand_eq_none_iff, ctlOperand_eq_none_iff, blockCountOperand_eq_none_iff])
      (by simp [failsBadkey]) (fun _ => .done _ _) (by simp [failsBusy, refusedWhileActive, isDirect])
      (by simp [failsFull])
  case oscp | osci | osca | oscc | oscs | oscr | timi | bqp | bqg =>
    exact .of_direct_inRange
      (by simp [failsRange, oscOperand_eq_none_iff, rateOperand_eq_none_iff, bitCountOperand_eq_none_iff])
      (by simp [failsBadkey]) (fun _ => .done _ _) (.inl rfl)
  case wrc a b => exact execWrc_answersInOrder a b s
  case dialc b => exact execDialc_answersInOrder b s
  case dialx => exact execDialx_answersInOrder s
  case txch b => exact execTxch_answersInOrder b s
  case dtk b => exact execDtk_answersInOrder b s

/-- Settles O6: the rows of a command are tested in their order, and a word that is none answers ILLEGAL. -/
theorem commandErrorsArePrecise : Obligations.CommandErrorsArePrecise := by
  unfold Obligations.CommandErrorsArePrecise
  refine ⟨fun i s => ?_, fun _ _ _ _ => step_illegal⟩
  have h := exec_answersInOrder i s
  exact ⟨h.reported, fun hb => (h.passed hb).reported, fun hb hr => ((h.passed hb).passed hr).reported,
    fun hb hr hk => (((h.passed hb).passed hr).passed hk).reported,
    fun hb hr hk hf => (((h.passed hb).passed hr).passed hk).passed hf⟩

end Sys2Proof.Machine
end

section
/-! Oscillator.lean: the six oscillator commands (40_oscillator.md R105 to R111), the symmetries and the named properties
of the cosine table (R102, R103), and the exact wrap of the phase (R114). -/

namespace Sys2Proof.Machine

/-! ### The checks of the oscillator commands (R105) -/

/-- Past its two checks an oscillator command is its body, on the oscillator its operand names. -/
theorem withOsc_idle {a : BitVec 8} {s : State} {i : Fin 12} (hidle : s.sched.dp = .none) (ha : a.toNat = i.val)
    (body : Fin 12 → Result) : withOsc a s body = body i := by
  rw [withOsc, direct_idle s _ hidle, oscOperand_val i a ha, inRange_some]

/-- A command of the table's BUSY rows answers BUSY (60_exceptions.md R351). -/
theorem exec_of_failsBusy {i : Instr} {s : State} (hb : failsBusy i s) : exec i s = errorAnswer .busy s :=
  (exec_answersInOrder i s).reported hb

/-- A command of the table's RANGE rows that is not BUSY answers RANGE (60_exceptions.md R351, R352). -/
theorem exec_of_failsRange {i : Instr} {s : State} (hb : ¬ failsBusy i s) (hr : failsRange i) :
    exec i s = errorAnswer .range s :=
  ((exec_answersInOrder i s).passed hb).reported hr

/-- The six commands on oscillator `a`; `b` is the operand of the two that write (R106 to R111). -/
def oscCommands (a : BitVec 8) (b : BitVec 16) : List Instr :=
  [.oscp a b, .osci a b, .osca a, .oscc a, .oscs a, .oscr a]

/-- The oscillator commands are BUSY exactly while a datapump is active. -/
theorem failsBusy_oscCommands_iff {a : BitVec 8} {b : BitVec 16} {s : State} {i : Instr} (hi : i ∈ oscCommands a b) :
    failsBusy i s ↔ s.sched.dp ≠ .none := by
  simp only [oscCommands, List.mem_cons, List.not_mem_nil, or_false] at hi
  rcases hi with rfl | rfl | rfl | rfl | rfl | rfl <;> simp [failsBusy, refusedWhileActive, isDirect]

/-- The oscillator commands fail RANGE for an index above 11. -/
theorem failsRange_oscCommands {a : BitVec 8} {b : BitVec 16} {i : Instr} (hi : i ∈ oscCommands a b)
    (ha : 11 < a.toNat) : failsRange i := by
  simp only [oscCommands, List.mem_cons, List.not_mem_nil, or_false] at hi
  refine .inl ⟨a, ha, ?_⟩
  rcases hi with rfl | rfl | rfl | rfl | rfl | rfl <;> simp

/-! ### What each command does (R106 to R111) -/

/-- What fits the response's 24-bit value is the same pattern in the response (30_encoding.md R82). -/
theorem setWidth_value {w : Nat} (v : BitVec w) (hw : w ≤ 24) : (v.setWidth 24).setWidth 32 = v.setWidth 32 := by
  ext k hk
  by_cases h : k < 24
  · simp [h]
  · simp [h, BitVec.getLsbD_of_ge v k (by omega)]

/-- OSCR's value in the response: PHASE in bits 11:0, INC in bits 23:12 (R111). -/
theorem setWidth_inc_append_phase (c p : BitVec 12) :
    (c ++ p).setWidth 32 = p.setWidth 32 ||| (c.setWidth 32 <<< 12) := by
  ext k hk
  simp only [BitVec.getElem_setWidth, BitVec.getLsbD_append, BitVec.getElem_or, BitVec.getElem_shiftLeft]
  by_cases h : k < 12
  · simp [h]
  · simp [h, BitVec.getLsbD_of_ge p k (by omega)]

section
variable {a : BitVec 8} {s : State} {i : Fin 12} (hidle : s.sched.dp = .none) (ha : a.toNat = i.val)
include hidle ha

/-- OSCP writes the phase (R106). -/
theorem exec_oscp (b : BitVec 16) : exec (.oscp a b) s =
    .next { s with osc := s.osc.set i.val ⟨b.setWidth 12, s.osc[i].inc⟩ i.isLt, resp := some 0 } :=
  withOsc_idle hidle ha _

/-- OSCI writes the increment (R107). -/
theorem exec_osci (b : BitVec 16) : exec (.osci a b) s =
    .next { s with osc := s.osc.set i.val ⟨s.osc[i].phase, b.setWidth 12⟩ i.isLt, resp := some 0 } :=
  withOsc_idle hidle ha _

/-- OSCA advances once and answers the new phase (R108). -/
theorem exec_osca : exec (.osca a) s = .next { s with
    osc := s.osc.set i.val ⟨s.osc[i].phase + s.osc[i].inc, s.osc[i].inc⟩ i.isLt
    resp := some ((s.osc[i].phase + s.osc[i].inc).setWidth 32) } := by
  have hphase : (oscAdv i s).osc[i].phase = s.osc[i].phase + s.osc[i].inc := by
    rw [osc_oscAdv, if_pos rfl]
  calc exec (.osca a) s
      = done ((oscAdv i s).osc[i].phase.setWidth 24) (oscAdv i s) := withOsc_idle hidle ha _
    _ = .next { oscAdv i s with resp := some ((s.osc[i].phase + s.osc[i].inc).setWidth 32) } := by
      rw [done_eq_setWidth, hphase, setWidth_value _ (by decide)]

/-- OSCC answers the cosine (R109). -/
theorem exec_oscc :
    exec (.oscc a) s = .next { s with resp := some ((BitVec.ofInt 16 (cosAt s.osc[i].phase)).setWidth 32) } := by
  rw [← setWidth_value _ (by decide), ← done_eq_setWidth]
  exact withOsc_idle hidle ha _

/-- OSCS answers the sine (R110). -/
theorem exec_oscs : exec (.oscs a) s =
    .next { s with resp := some ((BitVec.ofInt 16 (cosAt (s.osc[i].phase + 3072))).setWidth 32) } := by
  rw [← setWidth_value _ (by decide), ← done_eq_setWidth]
  exact withOsc_idle hidle ha _

/-- OSCR answers PHASE and INC (R111). -/
theorem exec_oscr : exec (.oscr a) s =
    .next { s with resp := some (s.osc[i].phase.setWidth 32 ||| (s.osc[i].inc.setWidth 32 <<< 12)) } := by
  rw [← setWidth_inc_append_phase, ← done_eq_setWidth]
  exact withOsc_idle hidle ha _

end

/-- Settles O17: the two checks by the table of command errors, the effects command by command. -/
theorem oscillatorCommandsTouchOneOscillator : Obligations.OscillatorCommandsTouchOneOscillator := by
  unfold Obligations.OscillatorCommandsTouchOneOscillator
  refine fun a b s => ⟨fun hactive i hi => ?_, fun hidle ha i hi => ?_, fun hidle i ha => ?_⟩
  · exact exec_of_failsBusy ((failsBusy_oscCommands_iff hi).2 hactive)
  · exact exec_of_failsRange (fun hb => (failsBusy_oscCommands_iff hi).1 hb hidle) (failsRange_oscCommands hi ha)
  · exact ⟨exec_oscp hidle ha b, exec_osci hidle ha b, exec_osca hidle ha, exec_oscc hidle ha, exec_oscs hidle ha,
      exec_oscr hidle ha⟩

/-! ### The symmetries of the cosine table (R101 to R103) -/

/-- The half wave changes sign about its middle, where it is zero. -/
theorem halfCos_sub {i : Nat} (hi : i ≤ 2048) : halfCos (2048 - i) = -halfCos i := by
  have hmid : quarterCos 1024 = 0 := by decide
  unfold halfCos
  rcases Nat.lt_trichotomy i 1024 with h | rfl | h
  · rw [if_neg (by omega), if_pos (by omega), Nat.sub_sub_self hi]
  · simp [hmid]
  · rw [if_pos (by omega), if_neg (by omega), neg_neg]

/-- The cosine of a phase of the first half wave. -/
theorem cosAt_of_le {p : BitVec 12} (hp : p.toNat ≤ 2048) : cosAt p = halfCos p.toNat := if_pos hp

/-- The cosine of a phase of the second half wave, its middle of the turn included. -/
theorem cosAt_of_ge {p : BitVec 12} (hp : 2048 ≤ p.toNat) : cosAt p = halfCos (4096 - p.toNat) := by
  rcases hp.eq_or_lt with h | h
  · rw [cosAt_of_le h.ge, ← h]
  · exact if_neg (Nat.not_le.2 h)

/-- The negative of a phase other than 0 is the rest of the turn. -/
theorem toNat_neg_phase {p : BitVec 12} (hp : 0 < p.toNat) : (-p).toNat = 4096 - p.toNat := by
  have hlt := p.isLt
  rw [BitVec.toNat_neg]
  omega

/-- The phase half a turn on. -/
theorem toNat_add_half_turn (p : BitVec 12) : (p + 2048).toNat = (p.toNat + 2048) % 4096 := BitVec.toNat_add p 2048

/-- Property P4: the cosine is even. -/
theorem cosAt_neg (p : BitVec 12) : cosAt (-p) = cosAt p := by
  rcases Nat.eq_zero_or_pos p.toNat with hzero | hpos
  · rw [BitVec.eq_of_toNat_eq (y := 0) hzero, neg_zero]
  have hneg := toNat_neg_phase hpos
  rcases Nat.le_total p.toNat 2048 with h | h
  · have hge : 2048 ≤ (-p).toNat := by omega
    rw [cosAt_of_le h, cosAt_of_ge hge, hneg, Nat.sub_sub_self p.isLt.le]
  · have hle : (-p).toNat ≤ 2048 := by omega
    rw [cosAt_of_ge h, cosAt_of_le hle, hneg]

/-- Property P3: half a turn negates the cosine. -/
theorem cosAt_add_half_turn (p : BitVec 12) : cosAt (p + 2048) = -cosAt p := by
  have hlt := p.isLt
  have hadd := toNat_add_half_turn p
  rcases Nat.lt_or_ge p.toNat 2048 with h | h
  · have hge : 2048 ≤ (p + 2048).toNat := by omega
    have hrest : 4096 - (p + 2048).toNat = 2048 - p.toNat := by omega
    rw [cosAt_of_ge hge, hrest, halfCos_sub h.le, cosAt_of_le h.le]
  · have hle : (p + 2048).toNat ≤ 2048 := by omega
    have hrest : (p + 2048).toNat = 2048 - (4096 - p.toNat) := by omega
    rw [cosAt_of_le hle, hrest, halfCos_sub (by omega), cosAt_of_ge h]

/-- Half a turn negates the sine. -/
theorem sinAt_add_half_turn (p : BitVec 12) : sinAt (p + 2048) = -sinAt p := by
  rw [sinAt, sinAt, add_right_comm, cosAt_add_half_turn]

/-- The sine is odd (R103): three quarters of a turn and their negative differ by half a turn. -/
theorem sinAt_neg (p : BitVec 12) : sinAt (-p) = -sinAt p := by
  have hturn : -p + 3072 = -(p + 3072) + 2048 := by
    have h : (3072 : BitVec 12) = -3072 + 2048 := by decide
    rw [neg_add, add_assoc, ← h]
  rw [sinAt, sinAt, hturn, cosAt_add_half_turn, cosAt_neg]

/-! ### The quarter wave and the power of a phase (properties P6 and P7 of R102) -/

/-- What holds of each row and column of a table holds of each index into it. -/
theorem forall_index_of_rows {m n : Nat} {P : Nat → Prop} (h : ∀ r < m, ∀ c < n, P (n * r + c)) :
    ∀ i < n * m, P i := by
  intro i hi
  have hn : 0 < n := Nat.pos_of_mul_pos_right (Nat.zero_lt_of_lt hi)
  rw [← Nat.div_add_mod i n]
  exact h _ (Nat.div_lt_of_lt_mul hi) _ (Nat.mod_lt i hn)

/-- Property P6: the quarter wave does not rise. -/
theorem quarterCos_succ_le : ∀ i, i < 1024 → quarterCos (i + 1) ≤ quarterCos i :=
  forall_index_of_rows (m := 64) (n := 16) (by decide)

/-- `cos² + sin²` at a phase. -/
def wavePower (p : BitVec 12) : Int := cosAt p * cosAt p + sinAt p * sinAt p

/-- `cos² + sin²` at index `i` of the quarter wave, whose sine is the cosine of the rest of the quarter. -/
def quarterPower (i : Nat) : Int := quarterCos i * quarterCos i + quarterCos (1024 - i) * quarterCos (1024 - i)

/-- The power is even. -/
theorem wavePower_neg (p : BitVec 12) : wavePower (-p) = wavePower p := by
  rw [wavePower, cosAt_neg, sinAt_neg, neg_mul_neg, wavePower]

/-- The power repeats after half a turn. -/
theorem wavePower_add_half_turn (p : BitVec 12) : wavePower (p + 2048) = wavePower p := by
  rw [wavePower, cosAt_add_half_turn, sinAt_add_half_turn, neg_mul_neg, neg_mul_neg, wavePower]

/-- The power mirrors about the middle of the quarter wave, where cosine and sine change places. -/
theorem quarterPower_sub {i : Nat} (hi : i ≤ 1024) : quarterPower (1024 - i) = quarterPower i := by
  rw [quarterPower, Nat.sub_sub_self hi, add_comm, quarterPower]

/-- In the first quarter the power is that of the quarter wave. -/
theorem wavePower_of_le {p : BitVec 12} (hp : p.toNat ≤ 1024) : wavePower p = quarterPower p.toNat := by
  have hquarter : ∀ i ≤ 1024, halfCos i = quarterCos i := fun i hi => if_pos hi
  have hcos : cosAt p = quarterCos p.toNat := by rw [cosAt_of_le (by omega), hquarter _ hp]
  have hsin : sinAt p = quarterCos (1024 - p.toNat) := by
    have hadd : (p + 3072).toNat = (p.toNat + 3072) % 4096 := BitVec.toNat_add p 3072
    rcases hp.eq_or_lt with h | h
    · have hzero : (p + 3072).toNat = 0 := by omega
      rw [sinAt, cosAt_of_le (by omega), hzero, hquarter 0 (by omega), h]
    · have hge : 2048 ≤ (p + 3072).toNat := by omega
      have hrest : 4096 - (p + 3072).toNat = 1024 - p.toNat := by omega
      rw [sinAt, cosAt_of_ge hge, hrest, hquarter _ (by omega)]
  rw [wavePower, hcos, hsin, quarterPower]

/-- In the first half turn the power is that of an index of the quarter wave. -/
theorem wavePower_eq_quarterPower_of_le {p : BitVec 12} (hp : p.toNat ≤ 2048) :
    ∃ i ≤ 1024, wavePower p = quarterPower i := by
  rcases Nat.le_total p.toNat 1024 with h | h
  · exact ⟨_, h, wavePower_of_le h⟩
  · have hfold : (-p + 2048).toNat ≤ 1024 := by
      rw [toNat_add_half_turn, toNat_neg_phase (by omega)]
      omega
    refine ⟨_, hfold, ?_⟩
    rw [← wavePower_of_le hfold, wavePower_add_half_turn, wavePower_neg]

/-- At each phase the power is that of an index of the quarter wave. -/
theorem wavePower_eq_quarterPower (p : BitVec 12) : ∃ i ≤ 1024, wavePower p = quarterPower i := by
  rcases Nat.le_total p.toNat 2048 with h | h
  · exact wavePower_eq_quarterPower_of_le h
  · have hneg : (-p).toNat ≤ 2048 := by
      rw [toNat_neg_phase (by omega)]
      omega
    rw [← wavePower_neg]
    exact wavePower_eq_quarterPower_of_le hneg

/-- The bound of P7 on the first half of the quarter wave, which the second half mirrors. -/
theorem quarterPower_error_le_of_lt : ∀ i < 528, (quarterPower i - 32767 * 32767).natAbs ≤ 43011 :=
  forall_index_of_rows (m := 33) (n := 16) (by decide)

/-- Property P7: the power is within 43011 of the amplitude's square. -/
theorem wavePower_error_le (p : BitVec 12) : (wavePower p - 32767 * 32767).natAbs ≤ 43011 := by
  obtain ⟨i, hi, hpower⟩ := wavePower_eq_quarterPower p
  rw [hpower]
  rcases Nat.lt_or_ge i 528 with h | h
  · exact quarterPower_error_le_of_lt i h
  · rw [← quarterPower_sub hi]
    exact quarterPower_error_le_of_lt _ (by omega)

/-! ### The checksums of the table (property P8 of R102) -/

/-- The model's sum is Mathlib's. -/
theorem sigma_eq_sum (n : Nat) (f : Nat → Int) : sigma n f = ∑ i ∈ Finset.range n, f i := by
  induction n with
  | zero => rfl
  | succ n ih => rw [sigma, ih, Finset.sum_range_succ]

/-- A sum in two parts. -/
theorem sigma_add (m n : Nat) (f : Nat → Int) : sigma (m + n) f = sigma m f + sigma n fun i => f (m + i) := by
  simp only [sigma_eq_sum, Finset.sum_range_add]

/-- A sum row by row. -/
theorem sigma_mul (m n : Nat) (f : Nat → Int) :
    sigma (m * n) f = sigma m fun r => sigma n fun c => f (r * n + c) := by
  induction m with
  | zero => rw [Nat.zero_mul]; rfl
  | succ m ih => rw [Nat.succ_mul, sigma_add, ih, sigma]

/-- A sum over the printed table: its 64 rows of sixteen entries, then its last entry (R101). -/
theorem sigma_quarter (f : Nat → Int) :
    sigma 1025 f = (sigma 64 fun r => sigma 16 fun c => f (r * 16 + c)) + f 1024 := by
  rw [← sigma_mul 64 16 f]
  rfl

/-- Over a whole turn the cosines cancel, each against the one half a turn on. -/
theorem sigma_cosAt : sigma 4096 (fun i => cosAt (BitVec.ofNat 12 i)) = 0 := by
  have hhalf : ∀ i, cosAt (BitVec.ofNat 12 (2048 + i)) = -cosAt (BitVec.ofNat 12 i) := by
    intro i
    rw [BitVec.ofNat_add, add_comm]
    exact cosAt_add_half_turn _
  calc sigma 4096 (fun i => cosAt (BitVec.ofNat 12 i))
      = sigma 2048 (fun i => cosAt (BitVec.ofNat 12 i)) + sigma 2048 fun i => cosAt (BitVec.ofNat 12 (2048 + i)) :=
        sigma_add 2048 2048 _
    _ = 0 := by simp only [hhalf, sigma_eq_sum, Finset.sum_neg_distrib, add_neg_cancel]

/-- Settles O18: the table is evaluated in its quarter wave only, and the symmetries carry the rest. -/
theorem cosineTableProperties : Obligations.CosineTableProperties := by
  unfold Obligations.CosineTableProperties
  have hbound : ∀ p : BitVec 12, -32767 ≤ cosAt p ∧ cosAt p ≤ 32767 := fun p => by
    have := cosAt_natAbs_le p
    omega
  refine ⟨by decide, by decide, by decide, by decide, hbound, cosAt_add_half_turn, cosAt_neg, sinAt_neg,
    quarterCos_succ_le, wavePower_error_le, ?_, ?_, sigma_cosAt⟩
  · rw [sigma_quarter]
    decide
  · rw [sigma_quarter]
    decide

/-! ### The exact wrap of the phase (R114) -/

/-- An oscillator after `k` advances: its phase has moved by `k` increments, modulo 4096. -/
def Osc.advanced (o : Osc) (k : Nat) : Osc := ⟨o.phase + BitVec.ofNat 12 k * o.inc, o.inc⟩

@[simp] theorem Osc.advanced_zero (o : Osc) : o.advanced 0 = o := by
  simp [advanced]

/-- An advance and `k` more. -/
theorem Osc.advanced_succ (o : Osc) (k : Nat) : o.advanced (k + 1) = (o.advanced 1).advanced k := by
  have hphase : o.phase + BitVec.ofNat 12 (k + 1) * o.inc = o.phase + 1 * o.inc + BitVec.ofNat 12 k * o.inc := by
    rw [BitVec.ofNat_add, add_comm (BitVec.ofNat 12 k), add_mul, add_assoc]
    rfl
  exact congrArg (Osc.mk · o.inc) hphase

/-- The phase after `k` advances, as a number. -/
theorem Osc.toNat_advanced_phase (o : Osc) (k : Nat) :
    (o.advanced k).phase.toNat = (o.phase.toNat + k * o.inc.toNat) % 4096 := by
  simp [advanced, Nat.add_mod, Nat.mul_mod]

/-- `s` after `k` advances of oscillator `i`, with response `r`. -/
def State.advanced (i : Fin 12) (k : Nat) (r : Option Word) (s : State) : State :=
  { s with osc := s.osc.set i.val (s.osc[i].advanced k) i.isLt, resp := r }

theorem State.advanced_zero (i : Fin 12) (s : State) : s.advanced i 0 s.resp = s := by
  simp [advanced]

/-- An advance and `k` more. -/
theorem State.advanced_succ (i : Fin 12) (k : Nat) (r r' : Option Word) (s : State) :
    (s.advanced i 1 r).advanced i k r' = s.advanced i (k + 1) r' := by
  simp [advanced, Osc.advanced_succ _ k]

theorem State.advanced_phase (i : Fin 12) (k : Nat) (r : Option Word) (s : State) :
    (s.advanced i k r).osc[i].phase = (s.osc[i].advanced k).phase := by
  simp [advanced]

section
variable {a : BitVec 8} {i : Fin 12} (ha : a.toNat = i.val)
include ha

/-- OSCA is one advance. -/
theorem exec_osca_eq_advanced {s : State} (hidle : s.sched.dp = .none) :
    ∃ r, exec (.osca a) s = .next (s.advanced i 1 r) := by
  have hone : s.osc[i].advanced 1 = ⟨s.osc[i].phase + s.osc[i].inc, s.osc[i].inc⟩ := by simp [Osc.advanced]
  rw [exec_osca hidle ha, ← hone]
  exact ⟨_, rfl⟩

/-- `k` OSCA commands in a row are `k` advances. -/
theorem execAll_replicate_osca (k : Nat) {s : State} (hidle : s.sched.dp = .none) :
    ∃ r, execAll (List.replicate k (.osca a)) s = some (s.advanced i k r) := by
  induction k generalizing s with
  | zero => exact ⟨s.resp, by rw [State.advanced_zero]; rfl⟩
  | succ k ih =>
    obtain ⟨r, hstep⟩ := exec_osca_eq_advanced ha hidle
    obtain ⟨r', hrest⟩ := ih (s := s.advanced i 1 r) hidle
    rw [List.replicate_succ, execAll_cons hstep, hrest, State.advanced_succ]
    exact ⟨r', rfl⟩

end

/-- Settles O19: the phase by induction on the number of advances, the mirror by the symmetries of the table. -/
theorem oscillatorWrapsExactly : Obligations.OscillatorWrapsExactly := by
  unfold Obligations.OscillatorWrapsExactly
  refine ⟨fun k a i s hidle ha _ => ?_, fun k c => ?_⟩
  · obtain ⟨r, hrun⟩ := execAll_replicate_osca ha k hidle
    refine ⟨s.advanced i k r, hrun, rfl, ?_⟩
    rw [State.advanced_phase, Osc.toNat_advanced_phase]
  · rw [BitVec.mul_neg]
    exact ⟨cosAt_neg _, sinAt_neg _⟩

end Sys2Proof.Machine
end

section
/-! ToneDetector.lean: the detector commands (41_tone_detector.md). The four slots are worked one after the other, each
on its own oscillator and its own two sums (R122), so what a procedure does is said of one slot (`State.slot`). -/

namespace Sys2Proof.Machine

/-! ### One slot at a time -/

/-- What the detector holds of slot `k`: its oscillator and its two correlation sums (R122). -/
structure Slot where
  osc : Osc
  di : Int
  dq : Int

/-- Slot `k` of a state. -/
def State.slot (k : Fin 4) (s : State) : Slot := ⟨s.osc[slotOsc k], s.det.di[k], s.det.dq[k]⟩

/-- A slot at the start of a window (R123, R125). -/
def Slot.cleared (c : Slot) : Slot := ⟨⟨0, c.osc.inc⟩, 0, 0⟩

/-- A slot with the increment `f` (R123). -/
def Slot.tuned (f : BitVec 12) (c : Slot) : Slot := ⟨⟨c.osc.phase, f⟩, c.di, c.dq⟩

/-- A slot that has taken in the scaled sample `v` (R124). -/
def Slot.correlated (v : Int) (c : Slot) : Slot :=
  ⟨⟨c.osc.phase + c.osc.inc, c.osc.inc⟩, c.di + v * cosAt c.osc.phase, c.dq + v * sinAt c.osc.phase⟩

/-- Different slots have different oscillators. -/
theorem slotOsc_inj {j k : Fin 4} : slotOsc j = slotOsc k ↔ j = k := by
  simp [slotOsc, Fin.ext_iff]

/-- Oscillator 0 and those above 4 belong to no slot. -/
theorem slotOsc_ne {j : Fin 12} (hj : j.val = 0 ∨ 4 < j.val) (k : Fin 4) : slotOsc k ≠ j := by
  rintro rfl
  have hk := k.isLt
  simp only [slotOsc] at hj
  omega

/-- What each turn of the loop over the slots leaves alone, the loop leaves alone. -/
theorem forSlots_keeps {α : Type} {f : Fin 4 → State → State} (read : State → α)
    (h : ∀ k s, read (f k s) = read s) (s : State) : read (forSlots f s) = read s := by
  simp only [forSlots, h]

/-- Where the turn of slot `k` works on that slot alone, the loop does to each slot what its turn does. -/
theorem slot_forSlots {f : Fin 4 → State → State} {g : Fin 4 → Slot → Slot}
    (hself : ∀ k s, (f k s).slot k = g k (s.slot k)) (hother : ∀ j k s, j ≠ k → (f k s).slot j = s.slot j)
    (k : Fin 4) (s : State) : (forSlots f s).slot k = g k (s.slot k) := by
  fin_cases k <;> simp [forSlots, hself, hother]

theorem slot_clearSlot_self (k : Fin 4) (s : State) : (clearSlot k s).slot k = (s.slot k).cleared := by
  have hosc : (clearSlot k s).osc[slotOsc k] = ⟨0, s.osc[slotOsc k].inc⟩ :=
    (osc_setPhase _ _ _ s).trans (if_pos rfl)
  simp only [State.slot, hosc]
  simp [Slot.cleared, clearSlot]

theorem slot_clearSlot_of_ne {j k : Fin 4} (s : State) (h : j ≠ k) : (clearSlot k s).slot j = s.slot j := by
  have hosc : (clearSlot k s).osc[slotOsc j] = s.osc[slotOsc j] :=
    (osc_setPhase _ _ _ s).trans (if_neg (slotOsc_inj.not.2 h.symm))
  simp only [State.slot, hosc]
  simp [clearSlot, Fin.val_ne_of_ne h.symm]

theorem slot_setInc_self (f : BitVec 12) (k : Fin 4) (s : State) :
    (setInc (slotOsc k) f s).slot k = (s.slot k).tuned f := by
  simp only [State.slot, osc_setInc, if_pos, setInc_det, Slot.tuned]

theorem slot_setInc_of_ne (f : BitVec 12) {j k : Fin 4} (s : State) (h : j ≠ k) :
    (setInc (slotOsc k) f s).slot j = s.slot j := by
  simp only [State.slot, osc_setInc, slotOsc_inj, if_neg h.symm, setInc_det]

theorem slot_correlateSlot_self (v : Int) (k : Fin 4) (s : State) :
    (correlateSlot v k s).slot k = (s.slot k).correlated v := by
  simp only [State.slot, correlateSlot, osc_oscAdv, if_pos, oscAdv_det]
  simp [Slot.correlated, oscCos, oscSin]

theorem slot_correlateSlot_of_ne (v : Int) {j k : Fin 4} (s : State) (h : j ≠ k) :
    (correlateSlot v k s).slot j = s.slot j := by
  simp only [State.slot, correlateSlot, osc_oscAdv, slotOsc_inj, if_neg h.symm, oscAdv_det]
  simp [Fin.val_ne_of_ne h.symm]

/-! ### What the detector's procedures do to a slot -/

/-- A window's start clears every slot (R123, R125). -/
theorem slot_clearWindow (k : Fin 4) (s : State) : (clearWindow s).slot k = (s.slot k).cleared :=
  slot_forSlots (g := fun _ => Slot.cleared) slot_clearSlot_self (fun _ _ s h => slot_clearSlot_of_ne s h) k s

/-- The end of a window clears every slot (R125). -/
theorem slot_windowEnd (k : Fin 4) (s : State) : (windowEnd s).2.slot k = (s.slot k).cleared :=
  slot_clearWindow k _

/-- A sample is correlated in every slot, at the phases it finds (R124). -/
theorem slot_accumulate (v : Int) (k : Fin 4) (s : State) : (accumulate v s).slot k = (s.slot k).correlated v :=
  slot_forSlots (g := fun _ => Slot.correlated v) (slot_correlateSlot_self v)
    (fun _ _ s h => slot_correlateSlot_of_ne v s h) k s

/-- `det_init` takes the increments of the host's frequencies and clears every slot (R123). -/
theorem slot_detInit (k : Fin 4) (s : State) : (detInit s).slot k = ((s.slot k).tuned s.ctl.detfrq[k]).cleared := by
  have hload : (forSlots loadSlotInc s).slot k = (s.slot k).tuned s.ctl.detfrq[k] :=
    slot_forSlots (f := fun k => setInc (slotOsc k) s.ctl.detfrq[k]) (g := fun k => Slot.tuned s.ctl.detfrq[k])
      (fun _ => slot_setInc_self _ _) (fun _ _ t h => slot_setInc_of_ne _ t h) k s
  rw [← hload]
  exact slot_clearWindow k _

section
variable {j : Fin 12} (hj : j.val = 0 ∨ 4 < j.val)
include hj

/-- A window's start leaves the oscillators of no slot alone. -/
theorem osc_clearWindow (s : State) : (clearWindow s).osc[j] = s.osc[j] :=
  forSlots_keeps (·.osc[j]) (fun k t => (osc_setPhase _ _ _ t).trans (if_neg (slotOsc_ne hj k))) s

/-- `det_init` leaves the oscillators of no slot alone. -/
theorem osc_detInit (s : State) : (detInit s).osc[j] = s.osc[j] :=
  (osc_clearWindow hj (forSlots loadSlotInc s)).trans <|
    forSlots_keeps (·.osc[j]) (fun k t => (osc_setInc _ _ _ t).trans (if_neg (slotOsc_ne hj k))) s

/-- A sample leaves the oscillators of no slot alone. -/
theorem osc_accumulate (v : Int) (s : State) : (accumulate v s).osc[j] = s.osc[j] :=
  forSlots_keeps (·.osc[j]) (fun k _ => (osc_oscAdv _ _ _).trans (if_neg (slotOsc_ne hj k))) s

/-- The end of a window leaves the oscillators of no slot alone. -/
theorem osc_windowEnd (s : State) : (windowEnd s).2.osc[j] = s.osc[j] :=
  osc_clearWindow hj _

end

/-- A sample adds its square to the block energy (R124). -/
theorem accumulate_de (v : Int) (s : State) : ((accumulate v s).det.de : Int) = s.det.de + v * v := by
  obtain ⟨hde, -, -⟩ := accumulate_det v s
  rw [hde, Nat.cast_add, Int.toNat_of_nonneg (mul_self_nonneg v)]

/-! ### The judgement at the end of a window (R125) -/

/-- Four bits side by side, each at its place. -/
theorem getLsbD_four_bits : ∀ (m : Fin 4 → Bool) (k : Fin 4),
    (BitVec.ofBool (m 3) ++ BitVec.ofBool (m 2) ++ BitVec.ofBool (m 1) ++ BitVec.ofBool (m 0)).getLsbD k.val = m k := by
  decide

/-- Bit `k` of the mask is the judgement of slot `k`. -/
theorem getLsbD_windowMask (k : Fin 4) (d : Detector) : (windowMask d).getLsbD k.val = slotDetected k d :=
  getLsbD_four_bits (slotDetected · d) k

/-- A slot is detected by two strict comparisons. -/
theorem slotDetected_iff (k : Fin 4) (d : Detector) : slotDetected k d = true ↔
    32768 < d.de ∧ (32 * d.de : Int) < asr d.di[k] 15 * asr d.di[k] 15 + asr d.dq[k] 15 * asr d.dq[k] 15 := by
  simp [slotDetected, slotEnergy]

/-- Bit `k` of the mask is set by the two strict comparisons of slot `k`. -/
theorem windowMask_iff (k : Fin 4) (d : Detector) : (windowMask d).getLsbD k.val = true ↔
    32768 < d.de ∧ (32 * d.de : Int) < asr d.di[k] 15 * asr d.di[k] 15 + asr d.dq[k] 15 * asr d.dq[k] 15 := by
  rw [getLsbD_windowMask, slotDetected_iff]

/-- A window whose energy is not over the floor detects nothing (R131). -/
theorem windowMask_of_de_le {d : Detector} (h : d.de ≤ 32768) : windowMask d = 0 := by
  have hslot (k : Fin 4) : slotDetected k d = false := by
    rw [← Bool.not_eq_true, slotDetected_iff]
    omega
  simp [windowMask, hslot]

/-- The code of a window's end says whether a detected slot is one the host asked for (R125, R129). -/
theorem windowEnd_code (s : State) :
    (windowEnd s).1.code.setWidth 32 =
      ((if windowMask s.det &&& s.ctl.detmask = 0 then 1 else 2 : Nat) : BitVec 32) := by
  by_cases h : windowMask s.det &&& s.ctl.detmask = 0
  · have hmiss : (windowMask s.det &&& s.ctl.detmask != 0) = false := bne_eq_false_iff_eq.2 h
    simp only [windowEnd, hmiss, if_pos h]
    rfl
  · have hhit : (windowMask s.det &&& s.ctl.detmask != 0) = true := bne_iff_ne.2 h
    simp only [windowEnd, hhit, if_neg h]
    rfl

/-! ### One detector step -/

/-- `s` with the budget `n`. -/
def State.withBudget (n : Nat) (s : State) : State := { s with det := { s.det with tmo := n } }

/-- Inside a window a step takes the sample in and spends one sample of the budget (R124, R126). -/
theorem detStep_of_wcnt_ne {x : Int} {s : State} (ht : 0 < s.det.tmo) (hw : s.det.wcnt ≠ 255) :
    detStep x s = (.cont, (accumulate (asr x 4) s).withBudget (s.det.tmo - 1)) := by
  have hroom : (accumulate (asr x Param.detShift) s).det.wcnt ≠ Param.detWindow := fun h => hw (Nat.succ.inj h)
  simp only [detStep, if_neg ht.ne', if_neg hroom]
  rfl

/-- The last step of a window takes the sample in, ends the window and spends one sample of the budget (R124, R126). -/
theorem detStep_of_wcnt_eq {x : Int} {s : State} (ht : 0 < s.det.tmo) (hw : s.det.wcnt = 255) :
    detStep x s = ((windowEnd (accumulate (asr x 4) s)).1,
      (windowEnd (accumulate (asr x 4) s)).2.withBudget (s.det.tmo - 1)) := by
  have hfull : (accumulate (asr x Param.detShift) s).det.wcnt = Param.detWindow := congrArg Nat.succ hw
  simp only [detStep, if_neg ht.ne', if_pos hfull]
  rfl

/-- A step spends one sample of the budget, if there is one (R126). -/
theorem detStep_tmo (x : Int) (s : State) : (detStep x s).2.det.tmo = s.det.tmo - 1 := by
  rcases Nat.eq_zero_or_pos s.det.tmo with ht | ht
  · rw [detStep_timeout x s ht, ht]
  · by_cases hw : s.det.wcnt = 255
    · rw [detStep_of_wcnt_eq ht hw]; rfl
    · rw [detStep_of_wcnt_ne ht hw]; rfl

/-- A step leaves the oscillators of no slot alone. -/
theorem osc_detStep {j : Fin 12} (hj : j.val = 0 ∨ 4 < j.val) (x : Int) (s : State) :
    (detStep x s).2.osc[j] = s.osc[j] := by
  rcases Nat.eq_zero_or_pos s.det.tmo with ht | ht
  · rw [detStep_timeout x s ht]
  · by_cases hw : s.det.wcnt = 255
    · rw [detStep_of_wcnt_eq ht hw]
      exact (osc_windowEnd hj _).trans (osc_accumulate hj _ s)
    · rw [detStep_of_wcnt_ne ht hw]
      exact osc_accumulate hj _ s

/-! ### What a step leaves unchanged -/

/-- From `s` to `t` only the detector, its four oscillators and the response have changed. -/
structure DetectorOnly (s t : State) : Prop where
  frame : t = { s with osc := t.osc, det := t.det, resp := t.resp }
  osc : ∀ j : Fin 12, j.val = 0 ∨ 4 < j.val → t.osc[j] = s.osc[j]

theorem DetectorOnly.refl (s : State) : DetectorOnly s s := ⟨rfl, fun _ _ => rfl⟩

theorem DetectorOnly.trans {s t u : State} (h : DetectorOnly s t) (k : DetectorOnly t u) : DetectorOnly s u where
  frame := by
    rw [k.frame, h.frame]
  osc j hj := (k.osc j hj).trans (h.osc j hj)

theorem DetectorOnly.dp {s t : State} (h : DetectorOnly s t) : t.sched.dp = s.sched.dp := by
  rw [h.frame]

/-- A detector step and its answer change the detector only. -/
theorem detStep_detectorOnly (x : Int) (r : Option Word) (s : State) :
    DetectorOnly s { (detStep x s).2 with resp := r } where
  frame := by
    obtain ⟨o, d, hframe⟩ := detStep_frame x s
    rw [hframe]
  osc _ hj := osc_detStep hj x s

/-! ### The commands -/

/-- Two fields side by side are the low one, with the high one shifted past it. -/
theorem setWidth_append {m n : Nat} (w : Nat) (x : BitVec m) (y : BitVec n) :
    (x ++ y).setWidth w = y.setWidth w ||| (x.setWidth w <<< n) := by
  ext i hi
  simp only [BitVec.getElem_setWidth, BitVec.getLsbD_append, BitVec.getElem_or, BitVec.getElem_shiftLeft]
  by_cases h : i < n
  · simp [h]
  · simp [h, BitVec.getLsbD_of_ge y i (by omega)]

/-- The value of DETS in the response: the code in bits 3:0, DETECTED above it (R129). -/
theorem setWidth_detsValue (m c : BitVec 4) :
    (0#16 ++ m ++ c).setWidth 32 = c.setWidth 32 ||| (m.setWidth 32 <<< 4) := by
  rw [setWidth_append, setWidth_append]
  simp

/-- DETS in idle mode is one detector step on its sample (R129). -/
theorem exec_dets (b : BitVec 16) {s : State} (hidle : s.sched.dp = .none) :
    exec (.dets b) s = .next { (detStep b.toInt s).2 with
      resp := some ((detStep b.toInt s).1.code.setWidth 32 |||
        ((detStep b.toInt s).2.det.detected.setWidth 32 <<< 4)) } := by
  rw [← setWidth_detsValue, ← done_eq_setWidth]
  exact direct_idle s _ hidle

/-- The value of DETR in the response (R130). -/
theorem setWidth_detrValue (m : BitVec 4) {n : Nat} (hn : n < 512) :
    (BitVec.ofNat 20 n ++ m).setWidth 32 = m.setWidth 32 ||| BitVec.ofNat 32 (16 * n) := by
  have hshift : (BitVec.ofNat 20 n).setWidth 32 <<< 4 = BitVec.ofNat 32 (16 * n) := by
    apply BitVec.eq_of_toNat_eq
    simp only [BitVec.toNat_shiftLeft, BitVec.toNat_setWidth, BitVec.toNat_ofNat, Nat.shiftLeft_eq]
    omega
  rw [setWidth_append, hshift]

/-- Settles O34: `det_init` slot by slot. -/
theorem detectorSetupAndResult : Obligations.DetectorSetupAndResult := by
  unfold Obligations.DetectorSetupAndResult
  refine fun a b s => ⟨fun hactive => ⟨direct_busy s _ hactive, direct_busy s _ hactive⟩, fun hidle => ⟨?_, ?_⟩,
    fun hwcnt => ?_⟩
  · refine ⟨{ detInit s with resp := some 0 }, direct_idle s _ hidle, ?_,
      fun k => congrArg Slot.osc (slot_detInit k s), fun j hj => osc_detInit hj s⟩
    rw [← detInit_det]
    rfl
  · have hconcat : (concat24 a b).toNat = a.toNat * 65536 + b.toNat := by
      have hb := b.isLt
      rw [concat24, BitVec.toNat_append, ← Nat.shiftLeft_add_eq_or_of_lt hb, Nat.shiftLeft_eq]
    rw [← hconcat]
    exact direct_idle s _ hidle
  · rw [← setWidth_detrValue _ hwcnt, ← done_eq_setWidth]
    rfl

/-- Settles O35: without budget, inside a window and at its end. -/
theorem detectorStepCorrelatesAndJudges : Obligations.DetectorStepCorrelatesAndJudges := by
  unfold Obligations.DetectorStepCorrelatesAndJudges
  refine fun b s => ⟨direct_busy s _, fun hidle ht => ?_, fun hidle ht => ?_⟩
  · rw [exec_dets b hidle, detStep_timeout _ s ht]
    rfl
  · have hslot (k : Fin 4) := slot_accumulate (asr b.toInt 4) k s
    obtain ⟨hframe, hosc⟩ := detStep_detectorOnly b.toInt _ s
    refine ⟨_, asr b.toInt 4, _, _, _, exec_dets b hidle, rfl, fun k => congrArg Slot.di (hslot k),
      fun k => congrArg Slot.dq (hslot k), accumulate_de _ s, hframe, hosc, detStep_tmo _ s, fun hw => ?_,
      fun hw => ?_⟩
    · rw [detStep_of_wcnt_ne ht hw]
      exact ⟨fun k => ⟨rfl, rfl, congrArg Slot.osc (hslot k)⟩, rfl, rfl, rfl, congrArg some (BitVec.zero_or)⟩
    · rw [detStep_of_wcnt_eq ht hw]
      have hcleared (k : Fin 4) := (slot_windowEnd k _).trans (congrArg Slot.cleared (hslot k))
      refine ⟨fun k => ⟨congrArg Slot.di (hcleared k), congrArg Slot.dq (hcleared k), congrArg Slot.osc (hcleared k),
        windowMask_iff k _⟩, rfl, rfl, ?_⟩
      rw [windowEnd_code]
      rfl

/-! ### Runs of detector steps -/

/-- DETS in idle mode spends one sample of the budget and changes the detector only (R126). -/
theorem exec_dets_detectorOnly (b : BitVec 16) {s : State} (hidle : s.sched.dp = .none) :
    ∃ t, exec (.dets b) s = .next t ∧ t.det.tmo = s.det.tmo - 1 ∧ DetectorOnly s t :=
  ⟨_, exec_dets b hidle, detStep_tmo _ s, detStep_detectorOnly _ _ s⟩

/-- A run of DETS spends a sample of the budget each and changes the detector only (R126). -/
theorem execAll_dets (bs : List (BitVec 16)) {s : State} (hidle : s.sched.dp = .none) :
    ∃ t, execAll (bs.map .dets) s = some t ∧ t.det.tmo = s.det.tmo - bs.length ∧ DetectorOnly s t := by
  induction bs generalizing s with
  | nil => exact ⟨s, rfl, rfl, .refl s⟩
  | cons b rest ih =>
    obtain ⟨u, hstep, hspent, hfirst⟩ := exec_dets_detectorOnly b hidle
    obtain ⟨t, hrun, htmo, hothers⟩ := ih (hfirst.dp.trans hidle)
    refine ⟨t, (execAll_cons hstep).trans hrun, ?_, hfirst.trans hothers⟩
    rw [htmo, hspent, List.length_cons]
    omega

/-- A scaled sample of a quiet input adds at most 1 to the block energy (R131). -/
theorem accumulate_de_of_quiet {b : BitVec 16} (hb : -16 ≤ b.toInt ∧ b.toInt ≤ 15) (s : State) :
    (accumulate (asr b.toInt 4) s).det.de ≤ s.det.de + 1 := by
  have hde := accumulate_de (asr b.toInt 4) s
  have hv : asr b.toInt 4 = -1 ∨ asr b.toInt 4 = 0 := by
    have hmem := asr_mem b.toInt (-1) 0 4 (by norm_num; omega) (by norm_num; omega)
    omega
  rcases hv with hv | hv <;> rw [hv] at hde ⊢ <;> omega

/-- A sample inside a window: the window and its energy grow, the budget falls (R124, R126). -/
theorem exec_dets_inside_window (b : BitVec 16) {s : State} (hidle : s.sched.dp = .none) (htmo : 0 < s.det.tmo)
    (hw : s.det.wcnt ≠ 255) :
    ∃ t, exec (.dets b) s = .next t ∧ t.sched.dp = .none ∧ t.det.wcnt = s.det.wcnt + 1 ∧
      t.det.tmo = s.det.tmo - 1 ∧ t.det.de = (accumulate (asr b.toInt 4) s).det.de := by
  have hstep := exec_dets b hidle
  rw [detStep_of_wcnt_ne htmo hw] at hstep
  exact ⟨_, hstep, hidle, rfl, rfl, rfl⟩

/-- The last sample of a window with little energy detects nothing and answers WINDOW (R131). -/
theorem exec_dets_of_window_quiet {b : BitVec 16} {s : State} (hidle : s.sched.dp = .none) (htmo : 0 < s.det.tmo)
    (hw : s.det.wcnt = 255) (hde : (accumulate (asr b.toInt 4) s).det.de ≤ 32768) :
    ∃ t, exec (.dets b) s = .next t ∧ t.det.detected = 0 ∧ t.det.wcnt = 0 ∧ t.resp = some 1 := by
  have hmask := windowMask_of_de_le hde
  have hstep := exec_dets b hidle
  rw [detStep_of_wcnt_eq htmo hw, windowEnd_code] at hstep
  simp only [State.withBudget, windowEnd_det, hmask] at hstep
  exact ⟨_, hstep, rfl, rfl, by simp⟩

/-- A window whose remaining samples are quiet, and whose energy so far is at most its count, ends with nothing
detected (R131). -/
theorem execAll_dets_of_quiet (bs : List (BitVec 16)) {s : State} (hidle : s.sched.dp = .none)
    (hlen : s.det.wcnt + bs.length = 256) (hw : s.det.wcnt ≤ 255) (htmo : bs.length ≤ s.det.tmo)
    (hde : s.det.de ≤ s.det.wcnt) (hquiet : ∀ b ∈ bs, -16 ≤ b.toInt ∧ b.toInt ≤ 15) :
    ∃ t, execAll (bs.map .dets) s = some t ∧ t.det.detected = 0 ∧ t.det.wcnt = 0 ∧ t.resp = some 1 := by
  induction bs generalizing s with
  | nil =>
    rw [List.length_nil] at hlen
    omega
  | cons b rest ih =>
    rw [List.length_cons] at hlen htmo
    obtain ⟨hb, hrest⟩ := List.forall_mem_cons.1 hquiet
    have hgrowth := accumulate_de_of_quiet hb s
    by_cases hlast : s.det.wcnt = 255
    · obtain ⟨t, hstep, hend⟩ := exec_dets_of_window_quiet (b := b) hidle (by omega) hlast (by omega)
      obtain rfl : rest = [] := List.eq_nil_of_length_eq_zero (by omega)
      exact ⟨t, execAll_cons hstep, hend⟩
    · obtain ⟨u, hstep, hidle', hcount, hbudget, henergy⟩ := exec_dets_inside_window b hidle (by omega) hlast
      rw [List.map_cons, execAll_cons hstep]
      exact ih hidle' (by omega) (by omega) (by omega) (by omega) hrest

/-- Settles O36: the budget by induction on the samples; the quiet window by the bound on its energy. -/
theorem detectorBudgetAndSilence : Obligations.DetectorBudgetAndSilence := by
  unfold Obligations.DetectorBudgetAndSilence
  refine ⟨fun bs s hidle _ => ?_, fun bs s hidle hlen htmo hw hde hquiet => ?_⟩
  · obtain ⟨t, hrun, htmo, honly⟩ := execAll_dets bs hidle
    exact ⟨t, hrun, htmo, honly.frame, honly.osc⟩
  · exact execAll_dets_of_quiet bs hidle (by omega) (by omega) (by omega) (by omega) hquiet

end Sys2Proof.Machine
end

section
/-! Dtmf.lean: the keypad, the DTMF generator and its two commands (42_dtmf_dialer.md section 1). -/

namespace Sys2Proof.Machine

/-! ### The keypad (R142) -/

/-- The key character of row `row` and column `col`. -/
def keyAt (row col : Fin 4) : Byte :=
  #v[#v[0x31, 0x32, 0x33, 0x41], #v[0x34, 0x35, 0x36, 0x42], #v[0x37, 0x38, 0x39, 0x43],
    #v[0x2A, 0x30, 0x23, 0x44]][row][col]

/-- Every key decodes to its place. -/
theorem dtmfDecode_keyAt : ∀ row col : Fin 4, dtmfDecode (keyAt row col) = some (row, col) := by
  decide

/-- What decodes is the key of its place. -/
theorem keyAt_of_dtmfDecode : ∀ c : Byte, ∀ p ∈ dtmfDecode c, keyAt p.1 p.2 = c := by
  decide

theorem dtmfDecode_eq_some_iff (c : Byte) (row col : Fin 4) :
    dtmfDecode c = some (row, col) ↔ keyAt row col = c := by
  constructor
  · exact keyAt_of_dtmfDecode c (row, col)
  · rintro rfl
    exact dtmfDecode_keyAt row col

/-- The keypad written as lists of characters. -/
theorem keypad_getElem? : ∀ row col : Fin 4,
    [[0x31, 0x32, 0x33, 0x41], [0x34, 0x35, 0x36, 0x42], [0x37, 0x38, 0x39, 0x43],
      [0x2A, 0x30, 0x23, 0x44]][row][col]? = some (keyAt row col) := by
  decide

/-! ### The generator (R143, R144) -/

/-- The sum of the two cosines of a digit, `i` samples on (R144). -/
def toneAt (i : Nat) (s : State) : Int :=
  asr (cosAt (s.osc[5].advanced i).phase + cosAt (s.osc[6].advanced i).phase) 2

/-- A tone sample is within a quarter of the sum of the two amplitudes, so that it never saturates (R144). -/
theorem toneAt_mem (i : Nat) (s : State) : -16384 ≤ toneAt i s ∧ toneAt i s ≤ 16383 := by
  have hrow := cosAt_natAbs_le (s.osc[5].advanced i).phase
  have hcol := cosAt_natAbs_le (s.osc[6].advanced i).phase
  exact asr_mem _ _ _ 2 (by norm_num; omega) (by norm_num; omega)

theorem dtmfSample_zero {s : State} (h : s.dtrem = 0) : dtmfSample s = (0, s) :=
  if_pos h

/-- A sample of a sounding digit: the tone, one advance of its two oscillators, and one sample fewer to come (R144). -/
theorem dtmfSample_pos {s : State} (h : 0 < s.dtrem) : dtmfSample s = (toneAt 0 s, { s with
    osc := (s.osc.set 5 (s.osc[5].advanced 1)).set 6 (s.osc[6].advanced 1)
    dtrem := s.dtrem - 1 }) := by
  simp [dtmfSample, h.ne', toneAt, oscCos, oscAdv, setPhase, setOsc, Osc.advanced]

/-! ### The commands (R145, R146) -/

/-- DTK on a key starts the digit (R145). -/
theorem exec_dtk_key {b : BitVec 16} {row col : Fin 4} {s : State} (hidle : s.sched.dp = .none)
    (hkey : dtmfDecode (bLow8 b) = some (row, col)) : exec (.dtk b) s = done 0 (dtmfKey row col s) :=
  (direct_idle s _ hidle).trans (by rw [hkey])

/-- DTK on any other byte answers BADKEY (R145). -/
theorem exec_dtk_badkey {b : BitVec 16} {s : State} (hidle : s.sched.dp = .none)
    (hkey : dtmfDecode (bLow8 b) = none) : exec (.dtk b) s = errorAnswer .badkey s := by
  rw [← raise_eq_errorAnswer]
  exact (direct_idle s _ hidle).trans (by rw [hkey])

/-- DTS in idle mode is one generator sample, and whether the digit was over before it (R146). -/
theorem exec_dts {s : State} (hidle : s.sched.dp = .none) :
    exec .dts s = done (0#7 ++ BitVec.ofBool (decide (s.dtrem = 0)) ++ lo16 (dtmfSample s).1) (dtmfSample s).2 :=
  direct_idle s _ hidle

/-- DTS after the digit answers 0 with done = 1 and changes nothing (R146). -/
theorem exec_dts_over {s : State} (hidle : s.sched.dp = .none) (h : s.dtrem = 0) :
    exec .dts s = .next { s with resp := some 0x10000 } := by
  have hvalue : (0#7 ++ BitVec.ofBool true ++ lo16 0).setWidth 32 = 0x10000#32 := by decide
  rw [exec_dts hidle, decide_eq_true h, dtmfSample_zero h, done_eq_setWidth, hvalue]
  rfl

/-- DTS while a digit sounds answers its tone (R146). -/
theorem exec_dts_sounding {s : State} (hidle : s.sched.dp = .none) (h : 0 < s.dtrem) :
    exec .dts s = .next { s with
      osc := (s.osc.set 5 (s.osc[5].advanced 1)).set 6 (s.osc[6].advanced 1)
      dtrem := s.dtrem - 1
      resp := some ((BitVec.ofInt 16 (toneAt 0 s)).setWidth 32) } := by
  have hvalue (y : BitVec 16) : (0#7 ++ BitVec.ofBool false ++ y).setWidth 32 = y.setWidth 32 := by
    rw [setWidth_append]
    simp
  rw [exec_dts hidle, decide_eq_false h.ne', dtmfSample_pos h, done_eq_setWidth, hvalue]
  rfl

/-- Settles O37: the keypad both ways, then the checks and the two cases of the generator. -/
theorem dtmfCommands : Obligations.DtmfCommands := by
  unfold Obligations.DtmfCommands
  refine ⟨fun c row col => ?_, fun b s => ⟨fun hactive => ⟨direct_busy s _ hactive, direct_busy s _ hactive⟩,
    fun hidle hkey => ?_, fun hidle row col hkey => ?_, fun hidle hover => ?_, fun hidle hsounding => ?_⟩⟩
  · rw [dtmfDecode_eq_some_iff, keypad_getElem?, Option.some_inj]
  · exact exec_dtk_badkey hidle hkey
  · exact exec_dtk_key hidle hkey
  · exact exec_dts_over hidle hover
  · obtain ⟨hlow, hhigh⟩ := toneAt_mem 0 s
    have hdts := exec_dts_sounding hidle hsounding
    simp only [toneAt, Osc.advanced_zero] at hlow hhigh hdts
    refine ⟨_, rfl, hlow, hhigh, ?_⟩
    simpa [Osc.advanced] using hdts

end Sys2Proof.Machine
end

section
/-! Dialer.lean: the dialer's creation (42_dtmf_dialer.md R148), its blocks (R149) and its tokens (R150, R151). -/

namespace Sys2Proof.Machine

/-! ### The creation of the dialer and of the detector (R148, 48_scheduler_host.md R293) -/

/-- The detector's registers after `det_init` and a new budget (R123). -/
theorem detInit_det_withBudget (n : Nat) (s : State) : ((detInit s).withBudget n).det =
    ⟨Vector.replicate 4 0, Vector.replicate 4 0, 0, 0, 0, n⟩ := by
  rw [State.withBudget, detInit_det]

/-- The dialer begins with a wait of S6 seconds (R148). -/
theorem create_dialer (s : State) : create (.dp .dialer) s = some { s with
    osc := (detInit s).osc
    dial := { s.dial with dlstate := .wait, dlpos := 0, dls8 := s.sreg[8] }
    dtrem := 0
    det := ⟨Vector.replicate 4 0, Vector.replicate 4 0, 0, 0, 0, s.sreg[6].toNat * 8000⟩ } := by
  rw [← detInit_det_withBudget _ s]
  rfl

/-- The detector listens for S7 seconds (R293). -/
theorem create_detector (s : State) : create (.dp .detector) s = some { s with
    osc := (detInit s).osc
    det := ⟨Vector.replicate 4 0, Vector.replicate 4 0, 0, 0, 0, s.sreg[7].toNat * 8000⟩ } := by
  rw [← detInit_det_withBudget _ s]
  rfl

theorem switch_mask : Event.switch.mask = 0x200 := by
  decide

/-- ORIG in idle mode switches to the dialer and answers its identifier (48_scheduler_host.md R311). -/
theorem exec_orig {s : State} (hidle : s.sched.dp = .none) : exec .orig s = .next { s with
    osc := (detInit s).osc
    evt := s.evt ||| 0x200
    sched := ⟨.dialer, .dp .dialer, false, .originator, false, true, s.sched.lt⟩
    dial := { s.dial with dlstate := .wait, dlpos := 0, dls8 := s.sreg[8] }
    dtrem := 0
    det := ⟨Vector.replicate 4 0, Vector.replicate 4 0, 0, 0, 0, s.sreg[6].toNat * 8000⟩
    resp := some 1 } := by
  have hvalue : okWord (Datapump.dialer.id.setWidth 24) = 1 := by decide
  have horig : exec .orig s = _ := direct_idle s _ hidle
  rw [applySwitch_created rfl (create_dialer _)] at horig
  rw [horig, ← hvalue, ← switch_mask]
  rfl

/-- Settles O25: ORIG switches to the dialer, which is created for S6 seconds. -/
theorem originateStartsTheDialer : Obligations.OriginateStartsTheDialer := by
  unfold Obligations.OriginateStartsTheDialer
  exact fun s => ⟨direct_busy s _, fun hidle =>
    ⟨_, exec_orig hidle, rfl, fun k => congrArg Slot.osc (slot_detInit k s), fun _ hj => osc_detInit hj s⟩⟩

/-! ### The cells a block writes (R149, 48_scheduler_host.md R296) -/

/-- From `s` to `t` the first `k` cells of OUTBUF have received the samples `y`, and the others are unchanged. -/
structure Wrote (y : Nat → Int) (k : Nat) (s t : State) : Prop where
  wf : t.outbuf.wf 256 = true
  read : ∀ i, t.outbuf.read i = if i < k then lo16 (y i) else s.outbuf.read i

theorem Wrote.refl {y : Nat → Int} {s : State} (hwf : s.outbuf.wf 256 = true) : Wrote y 0 s s :=
  ⟨hwf, fun _ => rfl⟩

/-- One cell more. -/
theorem Wrote.succ {y : Nat → Int} {k : Nat} {s t u : State} (h : Wrote y k s t) (hk : k < 256)
    (hu : u.outbuf = t.outbuf.write k (lo16 (y k))) : Wrote y (k + 1) s u where
  wf := hu ▸ Memory.write_wf _ h.wf k _ hk
  read i := by
    rw [hu, Memory.read_write _ h.wf, h.read]
    rcases lt_trichotomy i k with hi | rfl | hi
    · rw [if_neg hi.ne, if_pos hi, if_pos (by omega)]
    · rw [if_pos rfl, if_pos (by omega)]
    · rw [if_neg hi.ne', if_neg (by omega), if_neg (by omega)]

/-- The zero-fill clears its cells and no other. -/
theorem read_zeroFill {left i : Nat} {s : State} (hwf : s.outbuf.wf 256 = true) (hend : i + left ≤ 256) (j : Nat) :
    (zeroFill left i s).outbuf.read j = if i ≤ j ∧ j < i + left then 0 else s.outbuf.read j := by
  induction left generalizing i s with
  | zero => exact (if_neg (by omega)).symm
  | succ k ih =>
    rw [zeroFill, ih (Memory.write_wf _ hwf i _ (by omega)) (by omega), setOut_outbuf, Memory.read_write _ hwf]
    rcases lt_trichotomy j i with hj | rfl | hj
    · rw [if_neg (by omega), if_neg hj.ne, if_neg (by omega)]
    · rw [if_neg (by omega), if_pos rfl, if_pos (by omega)]
      rfl
    · rw [if_neg hj.ne']
      congr 1
      exact propext (by omega)

/-- A block of silence and its zero-fill are silence to the end of the block. -/
theorem Wrote.silence {k n : Nat} {s t : State} (h : Wrote (fun _ => 0) k s t) (hk : k ≤ n) (i : Nat) :
    (if k ≤ i ∧ i < n then 0 else t.outbuf.read i) = if i < n then 0 else s.outbuf.read i := by
  rw [h.read]
  rcases lt_or_ge i k with hi | hi
  · rw [if_neg (by omega), if_pos hi, if_pos (by omega)]
    rfl
  · simp only [hi, true_and, if_neg hi.not_gt]

/-! ### The end of a block (48_scheduler_host.md R296, R316) -/

/-- The switch at the end of a block, if one is requested. -/
def handOver (s : State) : State := if s.sched.pend then applySwitch s else s

/-- The fields sw and DP of PROC's response for a block that ends in `s`. -/
def blockHeader (s : State) : Word :=
  (0#5 ++ (handOver s).sched.dp.id ++ 0#3 ++ BitVec.ofBool s.sched.pend).setWidth 32 <<< 12

/-- `s` with other output cells and another response. -/
def State.withOutput (m : Memory 16) (r : Option Word) (s : State) : State := { s with outbuf := m, resp := r }

/-- The state in which PROC leaves a block that ends in `s` after `p` samples, with the output cells `m`. -/
def blockEnd (m : Memory 16) (p : Nat) (s : State) : State :=
  (handOver s).withOutput m (some (BitVec.ofNat 32 p ||| blockHeader s))

theorem handOver_idle {s : State} (h : s.sched.pend = false) : handOver s = s := by
  simp [handOver, h]

theorem handOver_pend {s : State} (h : s.sched.pend = true) : handOver s = applySwitch s := by
  simp [handOver, h]

/-- A block that ends in the dialer with nothing requested. -/
theorem blockEnd_dialer {s : State} (hdp : s.sched.dp = .dialer) (hpend : s.sched.pend = false) (m : Memory 16)
    (p : Nat) : blockEnd m p s = s.withOutput m (some (BitVec.ofNat 32 p ||| 0x10000)) := by
  have hvalue : (0#5 ++ Datapump.dialer.id ++ 0#3 ++ BitVec.ofBool false).setWidth 32 <<< 12 = (0x10000 : Word) := by
    decide
  rw [blockEnd, blockHeader, handOver_idle hpend, hdp, hpend, hvalue]

/-- A switch reads neither the output cells nor the response. -/
theorem applySwitch_withOutput (m : Memory 16) (r : Option Word) (s : State) :
    applySwitch (s.withOutput m r) = (applySwitch s).withOutput m r := by
  rcases applySwitch_cases s with ⟨hnext, h⟩ | ⟨hnext, h⟩ | ⟨d, u, hnext, hcreate, h⟩ <;> rw [h]
  · exact applySwitch_none hnext
  · exact applySwitch_invalid hnext
  · refine (applySwitch_created (s := s.withOutput m r) (u := u.withOutput m r) hnext ?_).trans rfl
    cases d <;> cases hcreate <;> rfl

theorem handOver_withOutput (m : Memory 16) (r : Option Word) (s : State) :
    handOver (s.withOutput m r) = (handOver s).withOutput m r := by
  cases hpend : s.sched.pend
  · rw [handOver_idle hpend, handOver_idle (s := s.withOutput m r) hpend]
  · rw [handOver_pend hpend, handOver_pend (s := s.withOutput m r) hpend, applySwitch_withOutput]

/-- The end of a block does not depend on the output cells and the response it finds. -/
theorem blockEnd_withOutput (m m' : Memory 16) (r : Option Word) (p : Nat) (s : State) :
    blockEnd m p (s.withOutput m' r) = blockEnd m p s := by
  rw [blockEnd, blockHeader, handOver_withOutput]
  rfl

/-- PROC's value in the response: p in bits 11:0, the rest above it (R316). -/
theorem setWidth_procValue {m p : Nat} (hp : p ≤ 256) (h : BitVec m) :
    (h ++ BitVec.ofNat 12 p).setWidth 32 = BitVec.ofNat 32 p ||| (h.setWidth 32 <<< 12) := by
  have hwide : (BitVec.ofNat 12 p).setWidth 32 = BitVec.ofNat 32 p := by
    apply BitVec.eq_of_toNat_eq
    simp only [BitVec.toNat_setWidth, BitVec.toNat_ofNat]
    omega
  rw [setWidth_append, hwide]

/-- PROC: the `p` samples of the datapump, the zero-fill, the switch (R296, R316). -/
theorem exec_proc_eq_blockEnd {b : BitVec 16} {s t : State} {p : Nat} (hb : 1 ≤ b.toNat ∧ b.toNat ≤ 256)
    (hrun : dpProcess b.toNat s = (p, t)) : ∃ m, exec (.proc b) s = .next (blockEnd m p t) ∧
      (t.outbuf.wf 256 = true → ∀ j, m.read j = if p ≤ j ∧ j < b.toNat then 0 else t.outbuf.read j) := by
  have hp : p ≤ b.toNat := by
    have hcount := dpProcess_count b.toNat s
    rwa [hrun] at hcount
  obtain ⟨m, hfill⟩ := zeroFill_frame (b.toNat - p) p t
  have hprocess : process b.toNat s = ⟨p, t.sched.pend, handOver (t.withOutput m t.resp)⟩ := by
    rw [process, hrun]
    simp only [hfill]
    cases hpend : t.sched.pend <;> simp [handOver, State.withOutput, hpend]
  refine ⟨m, ?_, fun hwf j => ?_⟩
  · have hexec : exec (.proc b) s = inRange (blockCountOperand b) s _ := rfl
    rw [blockCountOperand_val b hb, inRange_some, hprocess, done_eq_setWidth, setWidth_procValue (hp.trans hb.2),
      handOver_withOutput] at hexec
    exact hexec
  · have hread := read_zeroFill (left := b.toNat - p) (i := p) hwf (by omega) j
    rw [hfill, Nat.add_sub_cancel' hp] at hread
    exact hread

/-- The dispatch of a block to the dialer (R295). -/
theorem dpProcess_dialer {s : State} (hdp : s.sched.dp = .dialer) (n : Nat) : dpProcess n s = dialerProcess n s := by
  rw [dpProcess, hdp]

/-! ### Blocks of samples (R149) -/

/-- While every turn keeps `P` and asks for more, the loop comes to sample `n`, however many samples follow. -/
theorem sampleLoop_of_more {turn : Nat → State → Turn × State} (P : Nat → State → Prop) {n : Nat}
    (hmore : ∀ i s, i < n → P i s → ∃ t, turn i s = (.more, t) ∧ P (i + 1) t) {left i : Nat} {s : State}
    (hn : i + left = n) (h : P i s) :
    ∃ t, P n t ∧ ∀ rest, sampleLoop turn (left + rest) i s = sampleLoop turn rest n t := by
  induction left generalizing i s with
  | zero =>
    obtain rfl : i = n := hn
    exact ⟨s, h, fun rest => by rw [Nat.zero_add]⟩
  | succ k ih =>
    obtain ⟨u, hturn, hu⟩ := hmore i s (by omega) h
    obtain ⟨t, ht, hloop⟩ := ih (by omega) hu
    refine ⟨t, ht, fun rest => ?_⟩
    rw [← hloop, Nat.succ_add, sampleLoop, hturn]

/-- An advance after `k` advances. -/
theorem Osc.advanced_advanced_one (o : Osc) (k : Nat) : (o.advanced k).advanced 1 = o.advanced (k + 1) := by
  simp [advanced, BitVec.ofNat_add, add_mul, add_assoc]

/-- `t` is `s` after `k` more samples of the current digit (R144, R149). -/
structure SoundedFor (k : Nat) (s t : State) : Prop where
  frame : t = { s with osc := t.osc, dtrem := s.dtrem - k, outbuf := t.outbuf }
  row : t.osc[5] = s.osc[5].advanced k
  col : t.osc[6] = s.osc[6].advanced k
  osc : ∀ j : Fin 12, j ≠ 5 → j ≠ 6 → t.osc[j] = s.osc[j]
  out : Wrote (toneAt · s) k s t

theorem SoundedFor.dtrem {k : Nat} {s t : State} (h : SoundedFor k s t) : t.dtrem = s.dtrem - k := by
  rw [h.frame]

theorem SoundedFor.refl {s : State} (hwf : s.outbuf.wf 256 = true) : SoundedFor 0 s s :=
  ⟨rfl, (Osc.advanced_zero _).symm, (Osc.advanced_zero _).symm, fun _ _ _ => rfl, .refl hwf⟩

/-- The tone after `k` samples. -/
theorem SoundedFor.tone {k : Nat} {s t : State} (h : SoundedFor k s t) : toneAt 0 t = toneAt k s := by
  simp only [toneAt, h.row, h.col, Osc.advanced_zero]

/-- Where the digit is not over, the turn is one more sample of it (R149). -/
theorem dialerToneTurn_more {k : Nat} {s t : State} (h : SoundedFor k s t) (hk : k < s.dtrem) (hcell : k < 256) :
    ∃ u, dialerToneTurn k t = (.more, u) ∧ SoundedFor (k + 1) s u := by
  have hleft : 0 < t.dtrem := by
    rw [h.dtrem]
    omega
  have hturn : dialerToneTurn k t = (.more, setOut k (dtmfSample t).1 (dtmfSample t).2) := if_neg hleft.ne'
  rw [dtmfSample_pos hleft, h.tone] at hturn
  refine ⟨_, hturn, ?_, ?_, ?_, fun j h5 h6 => ?_, h.out.succ hcell rfl⟩
  · rw [h.frame, Nat.sub_add_eq]
    rfl
  · simp [setOut, h.row, Osc.advanced_advanced_one]
  · simp [setOut, h.col, Osc.advanced_advanced_one]
  · rw [← h.osc j h5 h6]
    have h5' : 5 ≠ j.val := fun h => h5 (Fin.ext h.symm)
    have h6' : 6 ≠ j.val := fun h => h6 (Fin.ext h.symm)
    simp [setOut, h5', h6']

/-- A block of a sounding digit is tone up to the end of the digit (R149). -/
theorem dialerProcess_tone {n : Nat} {s : State} (hstate : s.dial.dlstate = .dial) (hleft : 0 < s.dtrem)
    (hwf : s.outbuf.wf 256 = true) (hn : n ≤ 256) :
    ∃ t, dialerProcess n s = (min n s.dtrem, t) ∧ SoundedFor (min n s.dtrem) s t := by
  have hprocess : dialerProcess n s = sampleLoop dialerToneTurn n 0 s := by
    simp [dialerProcess, hstate, hleft.ne']
  obtain ⟨t, ht, hloop⟩ := sampleLoop_of_more (SoundedFor · s) (n := min n s.dtrem)
    (fun k u hk hu => dialerToneTurn_more hu (by omega) (by omega)) (Nat.zero_add _) (.refl hwf)
  refine ⟨t, ?_, ht⟩
  rcases le_or_gt n s.dtrem with hle | hgt
  · rw [hprocess, min_eq_left hle]
    rw [min_eq_left hle] at hloop
    exact hloop 0
  · obtain ⟨rest, rfl⟩ : ∃ rest, n = s.dtrem + (rest + 1) := ⟨n - s.dtrem - 1, by omega⟩
    have hover : t.dtrem = 0 := by
      rw [ht.dtrem]
      omega
    rw [min_eq_right hgt.le] at hloop
    rw [hprocess, min_eq_right hgt.le, hloop, sampleLoop, dialerToneTurn, if_pos hover]

/-- Settles O32: the samples of the block by the loop, the rest of it by the end of the block. -/
theorem dialerToneBlock : Obligations.DialerToneBlock := by
  unfold Obligations.DialerToneBlock
  intro b s hlow hhigh hmem hdp hpend hstate hleft
  obtain ⟨-, -, -, -, hout, -⟩ := hmem
  obtain ⟨t, hrun, ht⟩ := dialerProcess_tone hstate hleft hout hhigh
  obtain ⟨m, hexec, hread⟩ := exec_proc_eq_blockEnd ⟨hlow, hhigh⟩ ((dpProcess_dialer hdp _).trans hrun)
  have hsched : t.sched = s.sched := by rw [ht.frame]
  rw [blockEnd_dialer (hsched ▸ hdp) (hsched ▸ hpend)] at hexec
  refine ⟨_, hexec, ?_, fun i hi => ?_, ht.row, ht.col, ht.osc⟩
  · rw [ht.frame]
    rfl
  · refine (hread ht.out.wf i).trans ?_
    rw [if_neg (by omega), ht.out.read, if_pos hi]
    rfl

/-! ### The tokens (R150, R151) -/

/-- A window's start, outside the oscillators (R150). -/
theorem clearWindow_eq (s : State) : clearWindow s = { s with
    osc := (clearWindow s).osc
    det := ⟨Vector.replicate 4 0, Vector.replicate 4 0, 0, 0, s.det.detected, s.det.tmo⟩ } := by
  rw [← clearWindow_det]
  rfl

theorem finish_mask : Event.dialdone.mask ||| Event.switch.mask = 0x280 := by
  decide

/-- A block that finishes dialing hands the line to the detector (R151, 48_scheduler_host.md R294). -/
theorem handOver_dlFinish (s : State) : handOver (dlFinish s) = { s with
    osc := (detInit s).osc
    evt := s.evt ||| 0x280
    sched := { s.sched with dp := .detector, next := .dp .detector, pend := false, connect := false }
    dial := { s.dial with dlstate := .finished }
    det := ⟨Vector.replicate 4 0, Vector.replicate 4 0, 0, 0, 0, s.sreg[7].toNat * 8000⟩ } := by
  rw [handOver_pend rfl, applySwitch_created rfl (create_detector _), ← finish_mask, ← BitVec.or_assoc]
  rfl

theorem blockHeader_dlFinish (s : State) : blockHeader (dlFinish s) = 0x21000 := by
  have hvalue : (0#5 ++ Datapump.detector.id ++ 0#3 ++ BitVec.ofBool true).setWidth 32 <<< 12 = (0x21000 : Word) := by
    decide
  rw [blockHeader, handOver_dlFinish, ← hvalue]
  rfl

/-- At the end of the string there is no token (R150). -/
theorem dlFetch_end {s : State} (h : s.dial.diallen ≤ s.dial.dlpos) : dlFetch s = dlFinish s :=
  if_pos h

section
variable {s : State} (hmore : s.dial.dlpos < s.dial.diallen)
include hmore

/-- The token is the byte at DLPOS, which passes it (R150). -/
theorem dlFetch_token : dlFetch s = dlToken (s.dial.dialstr.read s.dial.dlpos)
    { s with dial := { s.dial with dlpos := s.dial.dlpos + 1 } } :=
  if_neg (by omega)

/-- A key starts its tone pair (R150). -/
theorem dlFetch_key {row col : Fin 4} (hkey : dtmfDecode (s.dial.dialstr.read s.dial.dlpos) = some (row, col)) :
    dlFetch s = dtmfKey row col { s with
      dial := { s.dial with dlstate := .dial, dlpos := s.dial.dlpos + 1 } } := by
  rw [dlFetch_token hmore, dlToken, hkey]

/-- A pause character starts a wait of DLS8 seconds (R150). -/
theorem dlFetch_pause (hpause : s.dial.dialstr.read s.dial.dlpos = 0x77 ∨ s.dial.dialstr.read s.dial.dlpos = 0x2C) :
    dlFetch s = clearWindow { s with
      dial := { s.dial with dlstate := .wait, dlpos := s.dial.dlpos + 1 }
      det := { s.det with tmo := s.dial.dls8.toNat * 8000 } } := by
  have hnokey : dtmfDecode (s.dial.dialstr.read s.dial.dlpos) = none := by
    rcases hpause with h | h <;> rw [h] <;> decide
  rw [dlFetch_token hmore, dlToken, hnokey]
  exact if_pos hpause

/-- Any other byte finishes dialing, and is passed (R150). -/
theorem dlFetch_malformed (hnokey : dtmfDecode (s.dial.dialstr.read s.dial.dlpos) = none)
    (hnopause : ¬ (s.dial.dialstr.read s.dial.dlpos = 0x77 ∨ s.dial.dialstr.read s.dial.dlpos = 0x2C)) :
    dlFetch s = dlFinish { s with dial := { s.dial with dlpos := s.dial.dlpos + 1 } } := by
  rw [dlFetch_token hmore, dlToken, hnokey]
  exact if_neg hnopause

end

/-- At the end of the string, and at a byte that is no token, the fetch finishes dialing (R150). -/
theorem dlFetch_finish {s : State} (h : s.dial.diallen ≤ s.dial.dlpos ∨ (s.dial.dlpos < s.dial.diallen ∧
    dtmfDecode (s.dial.dialstr.read s.dial.dlpos) = none ∧ s.dial.dialstr.read s.dial.dlpos ≠ 0x77 ∧
    s.dial.dialstr.read s.dial.dlpos ≠ 0x2C)) :
    dlFetch s = dlFinish { s with dial := { s.dial with
      dlpos := if s.dial.dlpos < s.dial.diallen then s.dial.dlpos + 1 else s.dial.dlpos } } := by
  rcases h with hend | ⟨hmore, hnokey, hw, hcomma⟩
  · rw [dlFetch_end hend, if_neg hend.not_gt]
  · rw [dlFetch_malformed hmore hnokey (not_or.2 ⟨hw, hcomma⟩), if_pos hmore]

/-- A fetch reads neither the output cells nor the response. -/
theorem dlFetch_withOutput (m : Memory 16) (r : Option Word) (s : State) :
    dlFetch (s.withOutput m r) = (dlFetch s).withOutput m r := by
  rcases le_or_gt s.dial.diallen s.dial.dlpos with hend | hmore
  · rw [dlFetch_end hend]
    exact dlFetch_end (s := s.withOutput m r) hend
  · cases hkey : dtmfDecode (s.dial.dialstr.read s.dial.dlpos) with
    | some place =>
      rw [dlFetch_key hmore hkey]
      exact dlFetch_key (s := s.withOutput m r) hmore hkey
    | none =>
      by_cases hpause : s.dial.dialstr.read s.dial.dlpos = 0x77 ∨ s.dial.dialstr.read s.dial.dlpos = 0x2C
      · rw [dlFetch_pause hmore hpause]
        exact dlFetch_pause (s := s.withOutput m r) hmore hpause
      · rw [dlFetch_malformed hmore hkey hpause]
        exact dlFetch_malformed (s := s.withOutput m r) hmore hkey hpause

theorem dlFetch_outbuf (s : State) : (dlFetch s).outbuf = s.outbuf := by
  obtain ⟨l, k, n, p, e, o, d, r, hframe⟩ := dlFetch_frame s
  rw [hframe]

/-! ### Waits (R149) -/

/-- A turn without budget fetches and stops. -/
theorem dialerWaitTurn_over {s : State} (h : s.det.tmo = 0) (i : Nat) : dialerWaitTurn i s = (.stop, dlFetch s) := by
  simp [dialerWaitTurn, detStep_timeout _ s h]

/-- Where a digit or a wait is over, the block is the fetch. -/
theorem dialerProcess_fetch {n : Nat} (hn : 1 ≤ n) {s : State}
    (h : (s.dial.dlstate = .dial ∧ s.dtrem = 0) ∨ (s.dial.dlstate = .wait ∧ s.det.tmo = 0)) :
    dialerProcess n s = (0, dlFetch s) := by
  obtain ⟨k, rfl⟩ := Nat.exists_eq_add_of_le' hn
  rcases h with ⟨hstate, hover⟩ | ⟨hstate, hover⟩
  · simp [dialerProcess, hstate, hover]
  · simp [dialerProcess, hstate, sampleLoop, dialerWaitTurn_over hover]

/-- `t` is `s` after `k` more samples of the current wait (R149). -/
structure WaitedFor (k : Nat) (s t : State) : Prop where
  frame : t = { s with osc := t.osc, evt := t.evt, det := t.det, outbuf := t.outbuf }
  evt : t.evt = s.evt ∨ t.evt = s.evt ||| 0x40
  tmo : t.det.tmo = s.det.tmo - k
  out : Wrote (fun _ => 0) k s t

theorem WaitedFor.refl {s : State} (hwf : s.outbuf.wf 256 = true) : WaitedFor 0 s s :=
  ⟨rfl, .inl rfl, rfl, .refl hwf⟩

/-- Setting DETECT again changes nothing. -/
theorem or_detect {e f : BitVec 11} (h : f = e ∨ f = e ||| 0x40) : f ||| Event.detect.mask = e ||| 0x40 := by
  have hmask : Event.detect.mask = 0x40 := by decide
  rw [hmask]
  rcases h with rfl | rfl
  · rfl
  · rw [BitVec.or_assoc, BitVec.or_self]

/-- Within the budget, the turn is one more sample of silence (R149). -/
theorem dialerWaitTurn_more {k : Nat} {s t : State} (h : WaitedFor k s t) (hk : k < s.det.tmo) (hcell : k < 256) :
    ∃ u, dialerWaitTurn k t = (.more, u) ∧ WaitedFor (k + 1) s u := by
  have hleft : t.det.tmo ≠ 0 := by
    rw [h.tmo]
    omega
  obtain ⟨o, d, hstep⟩ := detStep_frame (inSample k t) t
  have htmo : d.tmo = s.det.tmo - (k + 1) := by
    have hspent := detStep_tmo (inSample k t) t
    rw [hstep, h.tmo] at hspent
    exact hspent
  have hframe (e : BitVec 11) : ({ setOut k 0 { t with osc := o, det := d } with evt := e } : State) =
      { s with osc := o, evt := e, det := d, outbuf := t.outbuf.write k 0 } := by
    rw [h.frame]
    rfl
  have hturn : dialerWaitTurn k t = (.more, if (detStep (inSample k t) t).1 = .hit then
      event .detect (setOut k 0 (detStep (inSample k t) t).2) else setOut k 0 (detStep (inSample k t) t).2) :=
    if_neg ((detStep_timeout_iff _ t).not.2 hleft)
  rw [hstep] at hturn
  refine ⟨_, hturn, ?_⟩
  split
  · exact ⟨hframe _, .inr (or_detect h.evt), htmo, h.out.succ hcell rfl⟩
  · exact ⟨hframe _, h.evt, htmo, h.out.succ hcell rfl⟩

/-- A block of a wait is silence as long as the budget lasts, however many samples follow (R149). -/
theorem dialerProcess_wait {k : Nat} {s : State} (hstate : s.dial.dlstate = .wait) (hk : k ≤ s.det.tmo)
    (hwf : s.outbuf.wf 256 = true) (hcells : k ≤ 256) :
    ∃ t, WaitedFor k s t ∧ ∀ rest, dialerProcess (k + rest) s = sampleLoop dialerWaitTurn rest k t := by
  have hprocess (n : Nat) : dialerProcess n s = sampleLoop dialerWaitTurn n 0 s := by
    simp [dialerProcess, hstate]
  simp only [hprocess]
  exact sampleLoop_of_more (WaitedFor · s) (fun i t hi ht => dialerWaitTurn_more ht (by omega) (by omega))
    (Nat.zero_add k) (.refl hwf)

/-- A block that outlasts the wait is silence up to the end of the budget, then the fetch (R149). -/
theorem dialerProcess_wait_over {n : Nat} {s : State} (hstate : s.dial.dlstate = .wait) (hends : s.det.tmo < n)
    (hwf : s.outbuf.wf 256 = true) (hn : n ≤ 256) :
    ∃ t, WaitedFor s.det.tmo s t ∧ t.det.tmo = 0 ∧ dialerProcess s.det.tmo s = (s.det.tmo, t) ∧
      dialerProcess n s = (s.det.tmo, dlFetch t) := by
  obtain ⟨t, ht, hrun⟩ := dialerProcess_wait hstate le_rfl hwf (hends.le.trans hn)
  obtain ⟨rest, rfl⟩ : ∃ rest, n = s.det.tmo + (rest + 1) := ⟨n - s.det.tmo - 1, by omega⟩
  have hover : t.det.tmo = 0 := by rw [ht.tmo, Nat.sub_self]
  exact ⟨t, ht, hover, hrun 0, by rw [hrun, sampleLoop, dialerWaitTurn_over hover]⟩

/-! ### The fetching block, token by token -/

/-- The block at the end of a digit or wait is the fetch. -/
theorem exec_proc_fetch {b : BitVec 16} {s : State} (hb : 1 ≤ b.toNat ∧ b.toNat ≤ 256) (hdp : s.sched.dp = .dialer)
    (h : (s.dial.dlstate = .dial ∧ s.dtrem = 0) ∨ (s.dial.dlstate = .wait ∧ s.det.tmo = 0)) :
    ∃ m, exec (.proc b) s = .next (blockEnd m 0 (dlFetch s)) := by
  obtain ⟨m, hexec, -⟩ := exec_proc_eq_blockEnd hb ((dpProcess_dialer hdp _).trans (dialerProcess_fetch hb.1 h))
  exact ⟨m, hexec⟩

section
variable {s : State} (hdp : s.sched.dp = .dialer) (hpend : s.sched.pend = false) (m : Memory 16)
  (hmore : s.dial.dlpos < s.dial.diallen)
include hdp hpend hmore

theorem blockEnd_key {row col : Fin 4} (hkey : dtmfDecode (s.dial.dialstr.read s.dial.dlpos) = some (row, col)) :
    blockEnd m 0 (dlFetch s) = { s with
      osc := (s.osc.set 5 ⟨0, #v[357, 394, 436, 482][row]⟩).set 6 ⟨0, #v[619, 684, 756, 836][col]⟩
      dial := { s.dial with dlstate := .dial, dlpos := s.dial.dlpos + 1 }
      dtrem := 1600
      outbuf := m
      resp := some 0x10000 } := by
  rw [dlFetch_key hmore hkey]
  exact blockEnd_dialer (s := dtmfKey row col { s with
    dial := { s.dial with dlstate := .dial, dlpos := s.dial.dlpos + 1 } }) hdp hpend m 0

theorem blockEnd_pause (hpause : s.dial.dialstr.read s.dial.dlpos = 0x77 ∨ s.dial.dialstr.read s.dial.dlpos = 0x2C) :
    blockEnd m 0 (dlFetch s) = { s with
      osc := (clearWindow s).osc
      dial := { s.dial with dlstate := .wait, dlpos := s.dial.dlpos + 1 }
      det := ⟨Vector.replicate 4 0, Vector.replicate 4 0, 0, 0, s.det.detected, s.dial.dls8.toNat * 8000⟩
      outbuf := m
      resp := some 0x10000 } := by
  rw [dlFetch_pause hmore hpause, clearWindow_eq]
  exact blockEnd_dialer (s := { s with
    osc := (clearWindow s).osc
    dial := { s.dial with dlstate := .wait, dlpos := s.dial.dlpos + 1 }
    det := ⟨Vector.replicate 4 0, Vector.replicate 4 0, 0, 0, s.det.detected, s.dial.dls8.toNat * 8000⟩ })
    hdp hpend m 0

end

/-! ### The wait that ends inside a block -/

/-- A block that is silence to its end. -/
theorem exec_proc_silent {b : BitVec 16} {s w : State} {n : Nat} (hn : b.toNat = n) (hb : 1 ≤ n ∧ n ≤ 256)
    (hdp : s.sched.dp = .dialer) (hpend : s.sched.pend = false) (hw : WaitedFor n s w)
    (hrun : dialerProcess n s = (n, w)) :
    ∃ m, exec (.proc b) s = .next (w.withOutput m (some (b.setWidth 32 ||| 0x10000))) ∧
      ∀ i, m.read i = if i < n then 0 else s.outbuf.read i := by
  subst hn
  obtain ⟨m, hexec, hread⟩ := exec_proc_eq_blockEnd hb ((dpProcess_dialer hdp _).trans hrun)
  have hsched : w.sched = s.sched := by rw [hw.frame]
  rw [blockEnd_dialer (hsched ▸ hdp) (hsched ▸ hpend), BitVec.ofNat_toNat] at hexec
  exact ⟨m, hexec, fun i => (hread hw.out.wf i).trans (hw.out.silence le_rfl i)⟩

/-- Two blocks that end alike differ in their output cells and in p. -/
theorem blockEnd_eq (m m' : Memory 16) (p : Nat) (s : State) : blockEnd m p s = { blockEnd m' 0 s with
    outbuf := m, resp := some ((BitVec.ofNat 32 0 ||| blockHeader s) ||| BitVec.ofNat 32 p) } := by
  rw [BitVec.zero_or, BitVec.or_comm (blockHeader s)]
  rfl

/-- Settles O33: the fetching block token by token, a wait within its budget, and the wait that ends in the block. -/
theorem dialerFetchesOneToken : Obligations.DialerFetchesOneToken := by
  unfold Obligations.DialerFetchesOneToken
  refine ⟨fun b s hlow hhigh hdp hpend hover => ?_, fun b s hlow hhigh hmem hdp hpend hstate hbudget => ?_⟩
  · obtain ⟨m, hexec⟩ := exec_proc_fetch ⟨hlow, hhigh⟩ hdp hover
    refine ⟨_, hexec, fun row col hmore hkey => ?_, fun hmore hpause => ?_, fun hend => ?_⟩
    · rw [blockEnd_key hdp hpend m hmore hkey]
    · rw [blockEnd_pause hdp hpend m hmore hpause]
      exact ⟨rfl, fun k => congrArg Slot.osc (slot_clearWindow k s), fun j hj => osc_clearWindow hj s⟩
    · rw [dlFetch_finish hend, blockEnd, handOver_dlFinish, blockHeader_dlFinish]
      exact ⟨rfl, rfl, fun k => congrArg Slot.osc (slot_detInit k s), fun j hj => osc_detInit hj s⟩
  · obtain ⟨-, -, -, -, hout, -⟩ := hmem
    refine ⟨fun hwithin => ?_, fun hends => ?_⟩
    · obtain ⟨w, hw, hrun⟩ := dialerProcess_wait hstate hwithin hout hhigh
      obtain ⟨m, hexec, hread⟩ := exec_proc_silent rfl ⟨hlow, hhigh⟩ hdp hpend hw (hrun 0)
      refine ⟨_, hexec, ?_, hw.evt, hw.tmo, fun i hi => (hread i).trans (if_pos hi),
        fun i hi => (hread i).trans (if_neg hi.not_gt)⟩
      rw [hw.frame]
      rfl
    · obtain ⟨w, hw, hover, hsilence, hblock⟩ := dialerProcess_wait_over hstate hends hout hhigh
      have hsched : w.sched = s.sched := by rw [hw.frame]
      have hdial : w.dial = s.dial := by rw [hw.frame]
      have hspend : (BitVec.ofNat 16 s.det.tmo).toNat = s.det.tmo := by
        rw [BitVec.toNat_ofNat]
        omega
      obtain ⟨m, hu, -⟩ := exec_proc_silent hspend (by omega) hdp hpend hw hsilence
      obtain ⟨m', hv⟩ := exec_proc_fetch (b := 1) (s := w.withOutput m _) (by decide) (hsched ▸ hdp)
        (.inr ⟨hdial ▸ hstate, hover⟩)
      rw [dlFetch_withOutput, blockEnd_withOutput] at hv
      obtain ⟨m'', ht, hread⟩ := exec_proc_eq_blockEnd ⟨hlow, hhigh⟩ ((dpProcess_dialer hdp _).trans hblock)
      rw [dlFetch_outbuf] at hread
      have hcells (i : Nat) := (hread hw.out.wf i).trans (hw.out.silence hends.le i)
      exact ⟨_, _, _, _, hu, hv, rfl, hover, hdial, hsched, ht, blockEnd_eq _ _ _ _,
        fun i hi => (hcells i).trans (if_pos hi), fun i hi => (hcells i).trans (if_neg hi.not_gt)⟩

end Sys2Proof.Machine
end

section
/-! SymbolTiming.lean: the symbol-timing unit, its two commands and its clock (43_symbol_timing_fsk.md section 1). -/

namespace Sys2Proof.Machine

/-! ### One step (R167) -/

/-- TACC after the bookkeeping of value `v`: how long `v` has persisted as a candidate (R167). -/
def Tim.persistence (v : BitVec 2) (t : Tim) : Nat :=
  if v = t.tcur then 0 else if v = t.tcand then t.tacc + t.trate else t.trate

/-- A value that has persisted for half a symbol becomes the current one (R167). -/
theorem timStep_confirm {v : BitVec 2} {t : Tim} (hne : v ≠ t.tcur) (hlong : 8000 ≤ 2 * t.persistence v) :
    timStep v t = (true, ⟨v, v, 0, 0, t.trate⟩) := by
  rw [Tim.persistence, if_neg hne] at hlong
  by_cases hcand : v = t.tcand
  · rw [if_pos hcand] at hlong
    subst hcand
    simp [timStep, timCandidate, hne, hlong]
  · rw [if_neg hcand] at hlong
    simp [timStep, timCandidate, hne, hcand, hlong]

/-- A step that confirms nothing books the candidate and ends with the bit-duration counter (R167). -/
theorem timStep_unconfirmed {v : BitVec 2} {t : Tim} (h : v = t.tcur ∨ 2 * t.persistence v < 8000) :
    timStep v t = timPeriod ⟨t.tcur, v, t.persistence v, t.bacc, t.trate⟩ := by
  by_cases hcur : v = t.tcur
  · simp [timStep, Tim.persistence, hcur]
  · have hshort := h.resolve_left hcur
    rw [Tim.persistence, if_neg hcur] at hshort ⊢
    by_cases hcand : v = t.tcand
    · rw [if_pos hcand] at hshort ⊢
      subst hcand
      simp [timStep, timCandidate, hcur, hshort.not_ge]
    · rw [if_neg hcand] at hshort ⊢
      simp [timStep, timCandidate, hcur, hcand, hshort.not_ge]

section
variable {cur cand : BitVec 2} {acc bacc rate : Nat}

/-- A whole symbol without a candidate re-emits the current value (R167). -/
theorem timPeriod_emit (hbit : 8000 ≤ min (bacc + rate) 65535) (hacc : acc = 0) :
    timPeriod ⟨cur, cand, acc, bacc, rate⟩ = (true, ⟨cur, cand, acc, min (bacc + rate) 65535 - 8000, rate⟩) :=
  if_pos ⟨hbit, hacc⟩

theorem timPeriod_silent (h : min (bacc + rate) 65535 < 8000 ∨ acc ≠ 0) :
    timPeriod ⟨cur, cand, acc, bacc, rate⟩ = (false, ⟨cur, cand, acc, min (bacc + rate) 65535, rate⟩) :=
  if_neg fun ⟨hbit, hacc⟩ => h.elim hbit.not_gt (· hacc)

end

/-! ### The commands (R169, R170) -/

/-- An illegal rate names nothing (R169). -/
theorem rateOperand_none {b : BitVec 16} (h : b.toNat < 1 ∨ 8000 < b.toNat) : rateOperand b = none :=
  if_neg fun ⟨hlow, hhigh⟩ => h.elim (Nat.not_lt.2 hlow) (Nat.not_lt.2 hhigh)

/-- `s` with what a timing step has left: the unit, and the answer `e | val << 1` (R170). -/
def State.timed (r : Bool × Tim) (s : State) : State :=
  { s with tim := r.2, resp := some ((BitVec.ofBool r.1).setWidth 32 ||| (r.2.tcur.setWidth 32 <<< 1)) }

/-- TIMS in idle mode is one timing step (R170). -/
theorem exec_tims (a : BitVec 8) {s : State} (hidle : s.sched.dp = .none) :
    exec (.tims a) s = .next (s.timed (timStep (a.setWidth 2) s.tim)) := by
  have hvalue (cur : BitVec 2) (e : Bool) :
      (0#21 ++ cur ++ BitVec.ofBool e).setWidth 32 = (BitVec.ofBool e).setWidth 32 ||| (cur.setWidth 32 <<< 1) := by
    rw [setWidth_append, setWidth_append]
    simp
  rw [State.timed, ← hvalue]
  exact (direct_idle s _ hidle).trans (done_eq_setWidth _ _)

/-- Settles O38: the checks of TIMI, and TIMS as a step that confirms, re-emits or emits nothing. -/
theorem symbolTimingCommands : Obligations.SymbolTimingCommands := by
  unfold Obligations.SymbolTimingCommands
  refine fun a b s => ⟨fun hactive => ⟨direct_busy s _ hactive, direct_busy s _ hactive⟩, fun hidle hrate => ?_,
    fun hidle hlow hhigh => ?_, fun hidle => ⟨_, s.tim.persistence (a.setWidth 2), _, rfl, rfl, rfl,
      fun hne hlong => ?_, fun hshort hbit hacc => ?_, fun hshort hwait => ?_⟩⟩
  · rw [← raise_eq_errorAnswer]
    exact (direct_idle s _ hidle).trans (by rw [rateOperand_none hrate, inRange_none])
  · exact (direct_idle s _ hidle).trans (by rw [rateOperand_val b ⟨hlow, hhigh⟩]; rfl)
  · rw [exec_tims a hidle, timStep_confirm hne hlong]
    rfl
  · rw [exec_tims a hidle, timStep_unconfirmed hshort, timPeriod_emit hbit hacc]
    rfl
  · rw [exec_tims a hidle, timStep_unconfirmed hshort, timPeriod_silent hwait]
    simp [State.timed]

/-! ### Runs of steps on one value -/

/-- The unit after `n` steps on the value `v`. -/
def Tim.after (v : BitVec 2) : Nat → Tim → Tim
  | 0, t => t
  | n + 1, t => (timStep v (Tim.after v n t)).2

/-- A run of TIMS on one value, up to the answer of its last step. -/
theorem execAll_replicate_tims (a : BitVec 8) (n : Nat) {s : State} (hidle : s.sched.dp = .none) :
    execAll (List.replicate (n + 1) (.tims a)) s =
      some (s.timed (timStep (a.setWidth 2) (s.tim.after (a.setWidth 2) n))) := by
  induction n with
  | zero => exact execAll_cons (exec_tims a hidle)
  | succ n ih =>
    rw [List.replicate_succ', execAll_append ih]
    exact execAll_cons (exec_tims a hidle)

/-! ### The clock of re-emissions (R168 (a)) -/

/-- A step on the current value: the bit-duration counter goes on modulo one symbol, and its overflow is the
re-emission (R167). -/
theorem timStep_current {t : Tim} {m : Nat} (hbacc : t.bacc = m % 8000) (hrate : t.trate ≤ 8000) :
    timStep t.tcur t =
      (decide (8000 ≤ m % 8000 + t.trate), ⟨t.tcur, t.tcur, 0, (m + t.trate) % 8000, t.trate⟩) := by
  rw [timStep_unconfirmed (.inl rfl), Tim.persistence, if_pos rfl, hbacc]
  by_cases hbit : 8000 ≤ m % 8000 + t.trate
  · rw [timPeriod_emit (by omega) rfl, decide_eq_true hbit]
    simp only [Prod.mk.injEq, Tim.mk.injEq, true_and, and_true]
    omega
  · rw [timPeriod_silent (.inl (by omega)), decide_eq_false hbit]
    simp only [Prod.mk.injEq, Tim.mk.injEq, true_and, and_true]
    omega

/-- A step back to the current value drops any candidate (R167). -/
theorem timStep_current_frame (t : Tim) : ∃ b, (timStep t.tcur t).2 = ⟨t.tcur, t.tcur, 0, b, t.trate⟩ := by
  rw [timStep_unconfirmed (.inl rfl), Tim.persistence, if_pos rfl]
  obtain ⟨b, -, hb⟩ := timPeriod_eq ⟨t.tcur, t.tcur, 0, t.bacc, t.trate⟩
  exact ⟨b, hb⟩

/-- Step `n + 1` of a run on the current value (R168). -/
theorem timStep_after_current {t : Tim} (hbacc : t.bacc = 0) (hrate : t.trate ≤ 8000) (n : Nat) :
    timStep t.tcur (t.after t.tcur n) =
      (decide (8000 ≤ n * t.trate % 8000 + t.trate), ⟨t.tcur, t.tcur, 0, (n + 1) * t.trate % 8000, t.trate⟩) := by
  rw [Nat.succ_mul]
  induction n with
  | zero => exact timStep_current (by rw [hbacc, Nat.zero_mul]) hrate
  | succ n ih =>
    rw [← Nat.succ_mul] at ih
    rw [Tim.after, ih]
    exact timStep_current (t := ⟨t.tcur, t.tcur, 0, _, t.trate⟩) rfl hrate

/-- Step `n + 1` is the rounded-up time of `m` samples where `m` falls between the two steps. -/
theorem succ_eq_ceil_iff {n m r : Nat} (hr : 1 ≤ r) : n + 1 = (m + (r - 1)) / r ↔ n * r < m ∧ m ≤ (n + 1) * r := by
  rw [eq_comm, Nat.div_eq_iff (by omega)]
  simp only [Nat.succ_mul]
  omega

/-- The overflow of the bit-duration counter is on the steps ceil(8000 * k / rate) (R168). -/
theorem emission_iff {n r : Nat} (hlow : 1 ≤ r) (hhigh : r ≤ 8000) :
    8000 ≤ n * r % 8000 + r ↔ ∃ k, 1 ≤ k ∧ n + 1 = (8000 * k + (r - 1)) / r := by
  simp only [succ_eq_ceil_iff hlow, Nat.succ_mul n]
  constructor
  · intro h
    exact ⟨n * r / 8000 + 1, by omega, by omega, by omega⟩
  · rintro ⟨k, hk, hbefore, hafter⟩
    omega

/-! ### The confirmation of another value (R168 (b), (c)) -/

/-- `u` is the unit `t` after `n` steps on another value, which has not been confirmed yet: the value persists and the
bit-duration counter goes on. -/
structure Tim.Awaits (v : BitVec 2) (n : Nat) (t u : Tim) : Prop where
  tcur : u.tcur = t.tcur
  trate : u.trate = t.trate
  persistence : u.persistence v = (n + 1) * t.trate
  counter : min (u.bacc + t.trate) 65535 = min (t.bacc + (n + 1) * t.trate) 65535

namespace Tim.Awaits
variable {v : BitVec 2} {n : Nat} {t u : Tim}

theorem start (hne : v ≠ t.tcur) (hacc : t.tacc = 0) : Tim.Awaits v 0 t t where
  tcur := rfl
  trate := rfl
  persistence := by simp [Tim.persistence, hne, hacc]
  counter := by rw [Nat.zero_add, Nat.one_mul]

/-- A step before half a symbol emits nothing: a candidate is pending (R167). -/
theorem step (h : Tim.Awaits v n t u) (hrate : 1 ≤ t.trate) (hshort : 2 * ((n + 1) * t.trate) < 8000) :
    timStep v u = (false, ⟨t.tcur, v, (n + 1) * t.trate, min (t.bacc + (n + 1) * t.trate) 65535, t.trate⟩) := by
  have hpending : (n + 1) * t.trate ≠ 0 := Nat.mul_ne_zero n.succ_ne_zero (by omega)
  rw [timStep_unconfirmed (.inr (h.persistence ▸ hshort)), h.tcur, h.trate, h.persistence,
    timPeriod_silent (.inr hpending)]
  simp only [h.counter]

/-- The step that reaches half a symbol confirms the value (R167). -/
theorem confirm (h : Tim.Awaits v n t u) (hne : v ≠ t.tcur) (hlong : 8000 ≤ 2 * ((n + 1) * t.trate)) :
    timStep v u = (true, ⟨v, v, 0, 0, t.trate⟩) := by
  rw [timStep_confirm (h.tcur ▸ hne) (h.persistence ▸ hlong), h.trate]

theorem succ (h : Tim.Awaits v n t u) (hne : v ≠ t.tcur) (hrate : 1 ≤ t.trate)
    (hshort : 2 * ((n + 1) * t.trate) < 8000) : Tim.Awaits v (n + 1) t (timStep v u).2 := by
  rw [h.step hrate hshort]
  refine ⟨rfl, rfl, ?_, ?_⟩
  · simp [Tim.persistence, hne, Nat.succ_mul]
  · rw [Nat.succ_mul (n + 1)]
    dsimp only
    omega

end Tim.Awaits

/-- A run on another value waits as long as it has not lasted half a symbol (R168). -/
theorem awaits_after {v : BitVec 2} {t : Tim} (hne : v ≠ t.tcur) (hacc : t.tacc = 0) (hrate : 1 ≤ t.trate) (n : Nat)
    (hshort : 2 * (n * t.trate) < 8000) : Tim.Awaits v n t (t.after v n) := by
  induction n with
  | zero => exact .start hne hacc
  | succ n ih =>
    have hbefore : n * t.trate ≤ (n + 1) * t.trate := Nat.mul_le_mul_right _ n.le_succ
    exact (ih (by omega)).succ hne hrate hshort

/-- Settles O39: the run on the current value by its counter, the run on another value up to its confirmation, and the
step back to the current value. -/
theorem symbolTimingClock : Obligations.SymbolTimingClock := by
  unfold Obligations.SymbolTimingClock
  refine ⟨fun n a s hidle hn ha _ hbacc hlow hhigh => ?_, fun n a c s hidle hne hc hacc hrate =>
    ⟨fun hn hshort => ?_, fun hshort hlong => ?_⟩⟩
  · obtain ⟨n, rfl⟩ := Nat.exists_eq_add_of_le' hn
    have hrun := execAll_replicate_tims a n hidle
    rw [ha, timStep_after_current hbacc hhigh] at hrun
    refine ⟨_, hrun, rfl, fun hk => ?_, fun hk => ?_⟩
    · rw [decide_eq_true ((emission_iff hlow hhigh).2 hk)]
      rfl
    · have hquiet : ¬ 8000 ≤ n * s.tim.trate % 8000 + s.tim.trate := by
        rw [emission_iff hlow hhigh]
        exact fun ⟨k, hpos, heq⟩ => hk k hpos heq
      rw [decide_eq_false hquiet]
      simp [State.timed]
  · obtain ⟨n, rfl⟩ := Nat.exists_eq_add_of_le' hn
    have hbefore : n * s.tim.trate ≤ (n + 1) * s.tim.trate := Nat.mul_le_mul_right _ n.le_succ
    have hrun := execAll_replicate_tims a n hidle
    rw [(awaits_after hne hacc hrate n (by omega)).step hrate hshort] at hrun
    refine ⟨⟨_, hrun, by simp [State.timed]⟩, _, (execAll_append hrun).trans (execAll_cons (exec_tims c hidle)), ?_⟩
    obtain ⟨b, hback⟩ := timStep_current_frame ⟨s.tim.tcur, a.setWidth 2, (n + 1) * s.tim.trate,
      min (s.tim.bacc + (n + 1) * s.tim.trate) 65535, s.tim.trate⟩
    simp only [hc, State.timed, hback]
  · have hrun := execAll_replicate_tims a n hidle
    rw [(awaits_after hne hacc hrate n hshort).confirm hne hlong] at hrun
    exact ⟨_, hrun, rfl⟩

end Sys2Proof.Machine
end

section
/-! FskModem.lean: the FSK modem, its three commands and the timing of its carrier detector (43_symbol_timing_fsk.md
section 2). -/

namespace Sys2Proof.Machine

/-! ### The initial values (R176, R180) -/

/-- FSKI in idle mode is `fsk_init` (R180). -/
theorem exec_fski (a : BitVec 8) {s : State} (hidle : s.sched.dp = .none) :
    exec (.fski a) s = done 0 (fskInit (Direction.ofBit (a.getLsbD 0)) s) :=
  direct_idle s _ hidle

/-- Settles O40: `fsk_init` for the direction of the operand's bit, with the increments of its two channels. -/
theorem fskInitialise : Obligations.FskInitialise := by
  unfold Obligations.FskInitialise
  refine fun a s => ⟨direct_busy s _, fun hidle hbit => ?_, fun hidle hbit => ?_⟩
  · rw [exec_fski a hidle, hbit]
    rfl
  · rw [exec_fski a hidle, hbit]
    rfl

/-! ### The modulator (R177, R181) -/

/-- The increment of a direction's transmit channel for a bit (R175). -/
theorem fskInc_txChannel (d : Direction) (bit : Bool) : fskInc d.txChannel bit =
    (match d, bit with
      | .originator, false => 604
      | .originator, true => 502
      | .answerer, false => 947
      | .answerer, true => 845) := by
  cases d <;> cases bit <;> rfl

/-- The state with other FSK registers. -/
def State.withFsk (f : Fsk) (s : State) : State := { s with fsk := f }

theorem txFill_withFsk (n : Nat) (f : Fsk) (s : State) : txFill n (s.withFsk f) = (txFill n s).withFsk f := by
  have hsame : (s.withFsk f).txfifo = s.txfifo := rfl
  rcases s.txfifo.pop_cases with ⟨-, hp⟩ | ⟨-, hp⟩ <;> simp only [txFill, hsame, hp] <;> rfl

theorem txFillTo_withFsk (n turns : Nat) (f : Fsk) (s : State) :
    txFillTo n turns (s.withFsk f) = (txFillTo n turns s).withFsk f := by
  induction turns generalizing s with
  | zero => rfl
  | succ k ih =>
    rw [txFillTo, txFillTo, txFill_withFsk, ih]
    exact (apply_ite (State.withFsk f) _ _ _).symm

/-- The transmit framer neither reads nor writes the FSK registers (R264). -/
theorem bqTxGet_withFsk (n : Nat) (f : Fsk) (s : State) :
    bqTxGet n (s.withFsk f) = ((bqTxGet n s).1, (bqTxGet n s).2.withFsk f) := by
  simp only [bqTxGet, txFillTo_withFsk]
  rfl

/-- The transmit framer writes its bit buffer and TXFIFO only (R264). -/
theorem bqTxGet_eq (n : Nat) (s : State) :
    (bqTxGet n s).2 = { s with bq := (bqTxGet n s).2.bq, txfifo := (bqTxGet n s).2.txfifo } := by
  obtain ⟨b, c, f, h⟩ := bqTxGet_frame n s
  rw [h]

theorem fskPull_of_lt {s : State} (h : s.fsk.ftxacc < 8000) : fskPull s = s :=
  if_neg h.not_ge

/-- A bit boundary: one bit from the transmit framer, and a bit time off the accumulator (R177). -/
theorem fskPull_of_ge {s : State} (h : 8000 ≤ s.fsk.ftxacc) : fskPull s = { s with
    fsk := { s.fsk with ftxbit := (bqTxGet 1 s).1.getLsbD 0, ftxacc := s.fsk.ftxacc - 8000 }
    bq := (bqTxGet 1 s).2.bq
    txfifo := (bqTxGet 1 s).2.txfifo } := by
  have hget := bqTxGet_withFsk 1 { s.fsk with ftxacc := s.fsk.ftxacc - 8000 } s
  rw [bqTxGet_eq, State.withFsk, State.withFsk] at hget
  simp only [fskPull, if_pos h, hget]

/-- A modulator sample after its bit boundary: half the cosine at the phase reached, and one advance with the
increment of the bit (R177). -/
def fskBitSample (t : State) : Int × State :=
  let inc := fskInc t.fsk.fdir.txChannel t.fsk.ftxbit
  (asr (cosAt t.osc[7].phase) 1, { t with
    osc := t.osc.set 7 ⟨t.osc[7].phase + inc, inc⟩
    fsk := { t.fsk with ftxacc := t.fsk.ftxacc + 300 } })

theorem fskMod_eq (s : State) : fskMod s = fskBitSample (fskPull s) := by
  simp [fskMod, fskBitSample, oscCos, oscAdv, setPhase, setInc, setOsc]

/-- FSKM in idle mode is one modulator sample (R181). -/
theorem exec_fskm {s : State} (hidle : s.sched.dp = .none) :
    exec .fskm s = .next { (fskMod s).2 with resp := some ((BitVec.ofInt 16 (fskMod s).1).setWidth 32) } := by
  have hvalue (y : BitVec 16) : (y.setWidth 24).setWidth 32 = y.setWidth 32 :=
    BitVec.setWidth_setWidth (by decide)
  rw [← lo16, ← hvalue]
  exact (direct_idle s _ hidle).trans (done_eq_setWidth _ _)

/-- Settles O41: the sample inside a bit and at a bit boundary. -/
theorem fskModulateOneSample : Obligations.FskModulateOneSample := by
  unfold Obligations.FskModulateOneSample
  refine fun s => ⟨direct_busy s _, fun hidle => ?_⟩
  by_cases hacc : s.fsk.ftxacc < 8000
  · refine ⟨s.fsk.ftxbit, fskInc s.fsk.fdir.txChannel s.fsk.ftxbit, _, exec_fskm hidle, (if_pos hacc).symm,
      fskInc_txChannel _ _, fun _ => ?_, fun h => absurd h hacc.not_ge⟩
    rw [fskMod_eq, fskPull_of_lt hacc]
    rfl
  · refine ⟨(bqTxGet 1 s).1.getLsbD 0, fskInc s.fsk.fdir.txChannel ((bqTxGet 1 s).1.getLsbD 0), _, exec_fskm hidle,
      (if_neg hacc).symm, fskInc_txChannel _ _, fun h => absurd h hacc, fun h => ?_⟩
    rw [fskMod_eq, fskPull_of_ge h]
    rfl

/-! ### The carrier detector (R179) -/

/-- A sample that counts towards a change of FCD: energy over the floor without carrier, none with it (R179). -/
def Fsk.Opposes (f : Fsk) (energy : Int) : Prop := decide (32768 < energy) ≠ f.fcd

/-- The count of consecutive samples that changes FCD (R179). -/
def Fsk.carrierTime (f : Fsk) : Nat := (if f.fcd then f.cdoff else f.cdon).toNat * 800

/-- `carrier_update` for both values of FCD at once (R179). -/
theorem carrierUpdate_eq (energy : Int) (f : Fsk) : carrierUpdate energy f =
    if decide (32768 < energy) ≠ f.fcd then
      if f.carrierTime ≤ f.fcdcnt + 1 then
        (if f.fcd then .lost else .cd, { f with fcd := !f.fcd, fcdcnt := 0 })
      else (.none, { f with fcdcnt := f.fcdcnt + 1 })
    else (.none, { f with fcdcnt := 0 }) := by
  cases hfcd : f.fcd <;> by_cases henergy : 32768 < energy <;>
    simp [carrierUpdate, Fsk.carrierTime, hfcd, henergy]

theorem carrierUpdate_restart {energy : Int} {f : Fsk} (h : ¬ f.Opposes energy) :
    carrierUpdate energy f = (.none, { f with fcdcnt := 0 }) :=
  (carrierUpdate_eq energy f).trans (if_neg h)

theorem carrierUpdate_count {energy : Int} {f : Fsk} (h : f.Opposes energy) (hcnt : f.fcdcnt + 1 < f.carrierTime) :
    carrierUpdate energy f = (.none, { f with fcdcnt := f.fcdcnt + 1 }) :=
  (carrierUpdate_eq energy f).trans ((if_pos h).trans (if_neg hcnt.not_ge))

theorem carrierUpdate_switch {energy : Int} {f : Fsk} (h : f.Opposes energy) (hcnt : f.carrierTime ≤ f.fcdcnt + 1) :
    carrierUpdate energy f = (if f.fcd then .lost else .cd, { f with fcd := !f.fcd, fcdcnt := 0 }) :=
  (carrierUpdate_eq energy f).trans ((if_pos h).trans (if_pos hcnt))

/-- The carrier detector after a run of samples. -/
def carrierRun (es : List Int) (f : Fsk) : Fsk := es.foldl (fun g y => (carrierUpdate y g).2) f

/-- A run too short to change FCD is counted (R179). -/
theorem carrierRun_count (es : List Int) {f : Fsk} (hes : ∀ y ∈ es, f.Opposes y)
    (hlen : f.fcdcnt + es.length < f.carrierTime) :
    carrierRun es f = { f with fcdcnt := f.fcdcnt + es.length } := by
  induction es generalizing f with
  | nil => rfl
  | cons y rest ih =>
    obtain ⟨hy, hrest⟩ := List.forall_mem_cons.1 hes
    rw [List.length_cons] at hlen ⊢
    rw [carrierRun, List.foldl_cons, carrierUpdate_count hy (by omega)]
    have hlonger : f.fcdcnt + 1 + rest.length < f.carrierTime := by omega
    refine (ih (f := { f with fcdcnt := f.fcdcnt + 1 }) hrest hlonger).trans ?_
    rw [Nat.add_right_comm, Nat.add_assoc]

/-- From a zero run counter: a shorter run is counted, its last sample changes FCD, and a sample of the other kind
restarts the count (R179). -/
theorem carrierRun_cases (es : List Int) (x : Int) {f : Fsk} (hzero : f.fcdcnt = 0) (hes : ∀ y ∈ es, f.Opposes y) :
    (es.length < f.carrierTime → carrierRun es f = { f with fcdcnt := es.length }) ∧
    (es.length < f.carrierTime ∨ es = [] → f.carrierTime ≤ es.length + 1 → f.Opposes x →
      carrierUpdate x (carrierRun es f) = (if f.fcd then .lost else .cd, { f with fcd := !f.fcd })) ∧
    (es.length < f.carrierTime → ¬ f.Opposes x → carrierUpdate x (carrierRun es f) = (.none, f)) := by
  have hcount (hlen : es.length < f.carrierTime ∨ es = []) : carrierRun es f = { f with fcdcnt := es.length } := by
    rcases hlen with hlen | rfl
    · rw [carrierRun_count es hes (by omega), hzero, Nat.zero_add]
    · exact congrArg (fun n => { f with fcdcnt := n }) hzero
  refine ⟨fun hlen => hcount (.inl hlen), fun hlen hlast hx => ?_, fun hlen hx => ?_⟩
  · rw [hcount hlen]
    refine (carrierUpdate_switch (f := { f with fcdcnt := es.length }) hx hlast).trans ?_
    rw [← hzero]
  · rw [hcount (.inl hlen)]
    refine (carrierUpdate_restart (f := { f with fcdcnt := es.length }) hx).trans ?_
    rw [← hzero]

/-- Settles O43: the two runs against FCD, over the floor without carrier and below it with carrier. -/
theorem carrierDetectTiming : Obligations.CarrierDetectTiming := by
  unfold Obligations.CarrierDetectTiming
  refine fun es x f hzero => ⟨fun hfcd hes => ?_, fun hfcd hes => ?_⟩
  · have hopp (y : Int) : f.Opposes y ↔ 32768 < y := by simp [Fsk.Opposes, hfcd]
    have hcases := carrierRun_cases es x hzero fun y hy => (hopp y).2 (hes y hy)
    simpa [Fsk.carrierTime, carrierRun, hopp, hfcd] using hcases
  · have hopp (y : Int) : f.Opposes y ↔ y ≤ 32768 := by simp [Fsk.Opposes, hfcd]
    have hcases := carrierRun_cases es x hzero fun y hy => (hopp y).2 (hes y hy)
    simpa [Fsk.carrierTime, carrierRun, hopp, hfcd] using hcases

/-! ### The demodulator (R178, R182) -/

/-- The receive framer leaves the timing unit and the FSK registers alone (R263). -/
theorem bqRxPut_tim_fsk (n : Nat) (v : BitVec 16) (s : State) :
    (bqRxPut n v s).2.tim = s.tim ∧ (bqRxPut n v s).2.fsk = s.fsk := by
  obtain ⟨b, c, e, f, h⟩ := bqRxPut_frame n v s
  rw [h]
  exact ⟨rfl, rfl⟩

/-- What the answer of FSKD reads is settled before a bit goes to the receive framer (R178). -/
theorem fskDem_answer (x : Int) (s : State) : (fskDem x s).1 = (fskVerdict x s).1 ∧
    (fskDem x s).2.2.tim = (fskHeard x s).tim ∧ (fskDem x s).2.2.fsk = (fskHeard x s).fsk := by
  rw [fskDem_eq]
  refine ⟨rfl, ?_⟩
  split
  · exact bqRxPut_tim_fsk 1 _ (fskHeard x s)
  · exact ⟨rfl, rfl⟩

/-- FSKD in idle mode is one demodulator sample, with the answer `e | val << 1 | FCD << 2` (R182). -/
theorem exec_fskd (b : BitVec 16) {s : State} (hidle : s.sched.dp = .none) :
    exec (.fskd b) s = .next { (fskDem b.toInt s).2.2 with
      resp := some ((BitVec.ofBool (fskVerdict b.toInt s).1).setWidth 32 |||
        ((fskHeard b.toInt s).tim.tcur.setWidth 32 <<< 1) |||
        ((BitVec.ofBool (fskHeard b.toInt s).fsk.fcd).setWidth 32 <<< 2)) } := by
  have hvalue : ∀ (e d : Bool) (cur : BitVec 2),
      ((BitVec.ofBool e).setWidth 24 ||| (cur.setWidth 24 <<< 1) ||| ((BitVec.ofBool d).setWidth 24 <<< 2)).setWidth 32 =
        (BitVec.ofBool e).setWidth 32 ||| (cur.setWidth 32 <<< 1) ||| ((BitVec.ofBool d).setWidth 32 <<< 2) := by
    decide
  have hexec : exec (.fskd b) s = done ((BitVec.ofBool (fskDem b.toInt s).1).setWidth 24 |||
      ((fskDem b.toInt s).2.2.tim.tcur.setWidth 24 <<< 1) |||
      ((BitVec.ofBool (fskDem b.toInt s).2.2.fsk.fcd).setWidth 24 <<< 2)) (fskDem b.toInt s).2.2 :=
    direct_idle s _ hidle
  obtain ⟨he, htim, hfsk⟩ := fskDem_answer b.toInt s
  rw [hexec, done_eq_setWidth, hvalue, ← he, ← htim, ← hfsk]

/-- The energy as the sum of two squares (R178). -/
theorem fskEnergy_eq_sq (o : Fin 12) (s : State) : fskEnergy o s =
    asr (corrCos 27 s.fsk.fx s.osc[o].phase s.osc[o].inc) 15 ^ 2 +
      asr (corrSin 27 s.fsk.fx s.osc[o].phase s.osc[o].inc) 15 ^ 2 := by
  rw [pow_two, pow_two]
  rfl

/-- The bit of a sample: mark unless space has the larger energy (R178). -/
theorem markBit_eq (mark space : Int) :
    (BitVec.ofBool (decide (0 ≤ mark - space))).setWidth 2 = if space ≤ mark then 1#2 else 0 := by
  simp only [Int.sub_nonneg]
  split <;> simp [*]

/-- The oscillators of the two receive filters after a sample (R178). -/
theorem fskHeard_osc (x : Int) (s : State) : (fskHeard x s).osc =
    (s.osc.set 8 ⟨s.osc[8].phase + s.osc[8].inc, s.osc[8].inc⟩).set 9
      ⟨s.osc[9].phase + s.osc[9].inc, s.osc[9].inc⟩ := by
  simp [fskHeard, fskShift, oscAdv, setPhase, setOsc]

/-- Settles O42: the filters, the carrier detector and the timing step, then the bit under carrier. -/
theorem fskDemodulateOneSample : Obligations.FskDemodulateOneSample := by
  unfold Obligations.FskDemodulateOneSample
  refine fun b s => ⟨direct_busy s _, fun hidle => ⟨(fskShift b.toInt s).fsk.fx, (fskEnergy · (fskShift b.toInt s)),
    (fskHeard b.toInt s).fsk, (fskHeard b.toInt s).tim, (fskVerdict b.toInt s).1, fskHeard b.toInt s, _, rfl,
    fun o => fskEnergy_eq_sq o _, rfl, ?_, ?_, exec_fskd b hidle, ?_⟩⟩
  · exact congrArg (timStep · s.tim) (markBit_eq _ _)
  · rw [← fskHeard_osc b.toInt s]
    rfl
  · rw [fskDem_eq]
    simp only [Bool.and_eq_true]

end Sys2Proof.Machine
end

section
/-! PskFilters.lean: the filters and the mapper of the PSK modem, their four commands, and the quadrant step of the sign
test (44_psk_modem.md section 1, R203 to R205, R210 to R215). -/

namespace Sys2Proof.Machine

/-! ### The commands (R210 to R214) -/

/-- The next state that answers `r` with nothing else changed (30_encoding.md R82). -/
def State.answering (s : State) (r : Word) : Result := .next { s with resp := some r }

/-- A command that completes with a sample answers its 16-bit pattern (30_encoding.md R82). -/
theorem done_sample (y : Int) (s : State) :
    done ((lo16 y).setWidth 24) s = .next { s with resp := some ((BitVec.ofInt 16 y).setWidth 32) } := by
  have hvalue : ((lo16 y).setWidth 24).setWidth 32 = (lo16 y).setWidth 32 := BitVec.setWidth_setWidth (by decide)
  rw [done_eq_setWidth, hvalue, lo16]

/-- The mapper table, symbol by symbol, as quarter turns of a phase (R198, R210). -/
theorem setWidth_mapQ (sym : BitVec 2) :
    (mapQ sym).setWidth 12 = (match sym with | 0 => 1 | 1 => 0 | 2 => 2 | 3 => 3 : BitVec 12) := by
  revert sym
  decide

/-- The inverse mapper table, quarter turns by quarter turns (R210). -/
theorem mapS_eq (q : BitVec 2) : mapS q = (match q with | 0 => 1 | 1 => 0 | 2 => 2 | 3 => 3) := by
  revert q
  decide

/-- The two tables are the same involution, so each answers in the response what the other does (R213, R214). -/
theorem mapper_response (a : BitVec 8) :
    ((mapQ (low2 a)).setWidth 24).setWidth 32 = (match a.toNat % 4 with | 0 => 1 | 1 => 0 | 2 => 2 | _ => 3 : Word) ∧
    ((mapS (low2 a)).setWidth 24).setWidth 32 =
      (match a.toNat % 4 with | 0 => 1 | 1 => 0 | 2 => 2 | _ => 3 : Word) := by
  revert a
  decide

/-- The mapper tables are inverse permutations (R210). -/
theorem mapS_mapQ (x : BitVec 2) : mapS (mapQ x) = x ∧ mapQ (mapS x) = x := by
  revert x
  decide

/-- Settles O47: each filter command is one step of its delay line, and each mapper command a reading of its table. -/
theorem filterAndMapperCommands : Obligations.FilterAndMapperCommands := by
  unfold Obligations.FilterAndMapperCommands
  refine fun a b s => ⟨fun hactive => ⟨direct_busy s _ hactive, direct_busy s _ hactive⟩, fun hidle => ⟨?_, ?_⟩,
    ?_, ?_, mapS_mapQ⟩
  · exact (direct_idle s _ hidle).trans (done_sample _ _)
  · exact (direct_idle s _ hidle).trans (done_sample _ _)
  · exact (done_eq_setWidth _ s).trans (congrArg (s.answering ·) (mapper_response a).1)
  · exact (done_eq_setWidth _ s).trans (congrArg (s.answering ·) (mapper_response a).2)

/-! ### The tables (R203) -/

/-- A sum of products is bounded by the absolute sum of one factor and the bound of the other. -/
theorem natAbs_sigma_mul_le (n m : Nat) (h d : Nat → Int) (hd : ∀ k, (d k).natAbs ≤ m) :
    ((sigma n fun k => h k * d k).natAbs : Int) ≤ (sigma n fun k => ((h k).natAbs : Int)) * m := by
  simp only [sigma_eq_sum, Int.natCast_natAbs, Finset.sum_mul]
  refine (Finset.abs_sum_le_sum_abs _ _).trans (Finset.sum_le_sum fun k _ => ?_)
  have hdk : |d k| ≤ m := by
    rw [Int.abs_eq_natAbs]
    exact_mod_cast hd k
  rw [abs_mul]
  exact mul_le_mul_of_nonneg_left hdk (abs_nonneg _)

/-- The sum of the absolute values of the taps of a filter (R203). -/
def absSum (h : Vector Int 13) : Int := sigma 13 fun k => ((tap h k).natAbs : Int)

/-- The absolute sums of the four tables (R203). -/
theorem absSum_tables : absSum cfg.txf[(0 : Fin 2)] = 42364 ∧ absSum cfg.txf[(1 : Fin 2)] = 42435 ∧
    absSum cfg.rxf[(0 : Fin 2)] = 43918 ∧ absSum cfg.rxf[(1 : Fin 2)] = 44603 := by
  decide

/-- The largest absolute sums of the transmit and of the receive tables (R203). -/
theorem absSum_le (ch : Fin 2) : absSum cfg.txf[ch] ≤ (42435 : Nat) ∧ absSum cfg.rxf[ch] ≤ (44603 : Nat) := by
  revert ch
  decide

/-- The sum of a filter step with absolute sum `a` over a delay line within `m` (R204). -/
theorem firSum_natAbs_le {h d : Vector Int 13} {a m : Nat} (hh : absSum h ≤ a) (hd : Within (-m) m d) :
    (sigma 13 fun k => tap h k * tap d k).natAbs ≤ a * m := by
  have hsum := natAbs_sigma_mul_le 13 m (tap h) (tap d) fun k =>
    tap_forall (fun y => y.natAbs ≤ m) d k (by simp) fun y hy => by
      have := hd y hy
      omega
  exact_mod_cast hsum.trans (mul_le_mul_of_nonneg_right hh (Int.natCast_nonneg m))

/-- A filter with the absolute sum of the transmit tables over the modulator's own samples: no saturation (R203). -/
theorem firOut_of_halfScale {h d : Vector Int 13} (hh : absSum h ≤ (42435 : Nat)) (hd : Within (-16384) 16384 d) :
    firOut h d = asr (sigma 13 fun k => tap h k * tap d k) 15 ∧ (firOut h d).natAbs ≤ 21218 := by
  have hsum : (sigma 13 fun k => tap h k * tap d k).natAbs ≤ 42435 * 16384 := firSum_natAbs_le hh hd
  have hmem := asr_mem (sigma 13 fun k => tap h k * tap d k) (-21218) 21218 15 (by norm_num; omega) (by norm_num; omega)
  have hsat : firOut h d = asr (sigma 13 fun k => tap h k * tap d k) 15 :=
    sat16_eq_self _ ⟨le_trans (by norm_num) hmem.1, hmem.2.trans (by norm_num)⟩
  rw [hsat]
  exact ⟨rfl, by omega⟩

/-- Settles O49: the tables by evaluation, the bounds from the absolute sums. -/
theorem filterTableProperties : Obligations.FilterTableProperties := by
  unfold Obligations.FilterTableProperties
  refine ⟨by decide, by decide, absSum_tables, fun ch d hd => ?_,
    fun ch d hd => firOut_of_halfScale (absSum_le ch).1 hd⟩
  have hwide : Within (-(32768 : Nat)) (32768 : Nat) d := fun y hy => by
    have := hd y hy
    omega
  exact ⟨(firSum_natAbs_le (absSum_le ch).1 hwide).trans_lt (by norm_num),
    (firSum_natAbs_le (absSum_le ch).2 hwide).trans_lt (by norm_num)⟩

/-! ### The sign test (R205, R215) -/

theorem quadrant_zero {a b : Int} (ha : 0 ≤ a) (hb : 0 ≤ b) : quadrant a b = 0 := if_pos ⟨ha, hb⟩

theorem quadrant_one {a b : Int} (ha : 0 ≤ a) (hb : b < 0) : quadrant a b = 1 := by
  simp [quadrant, ha, hb]

theorem quadrant_two {a b : Int} (ha : a < 0) (hb : b < 0) : quadrant a b = 2 := by
  simp [quadrant, ha.not_ge, hb]

theorem quadrant_three {a b : Int} (ha : a < 0) (hb : 0 ≤ b) : quadrant a b = 3 := by
  simp [quadrant, ha.not_ge, hb.not_gt]

/-- Settles O48: a turned pair has one of the dot and the cross product zero, and the other plus or minus the scaled
power of the pair. -/
theorem quarterTurnsClassify : Obligations.QuarterTurnsClassify := by
  unfold Obligations.QuarterTurnsClassify
  refine ⟨fun i q g hg hne => ?_, fun i q => by simp [stepBetween, quadrant]⟩
  have hpower : 0 < g * (i * i + q * q) := by
    refine mul_pos hg ?_
    rcases hne with hi | hq
    · exact add_pos_of_pos_of_nonneg (mul_self_pos.2 hi) (mul_self_nonneg q)
    · exact add_pos_of_nonneg_of_pos (mul_self_nonneg i) (mul_self_pos.2 hq)
  refine ⟨quadrant_zero ?_ ?_, quadrant_one ?_ ?_, quadrant_two ?_ ?_, quadrant_three ?_ ?_⟩ <;> linarith

end Sys2Proof.Machine
end

section
/-! PskModem.lean: the initial values, the modulator and the demodulator of the PSK modem (44_psk_modem.md R197 to R199,
R205 to R209). -/

namespace Sys2Proof.Machine

/-! ### The initial values (R197, R207) -/

/-- Settles O44: `psk_init` for the direction of the operand's bit, with the carriers of its two channels. -/
theorem pskInitialise : Obligations.PskInitialise := by
  unfold Obligations.PskInitialise
  refine fun a s => ⟨direct_busy s _, fun hidle => ?_⟩
  have hexec : exec (.pski a) s = done 0 (pskInit (Direction.ofBit (a.getLsbD 0)) s) := direct_idle s _ hidle
  rw [hexec]
  cases a.getLsbD 0 <;> rfl

/-! ### What the transmit framer reads (47_framing_fifo.md R264) -/

/-- Two states with the same transmit bit queue and TXFIFO. -/
def State.SameTransmit (s t : State) : Prop := s.bq = t.bq ∧ s.txfifo = t.txfifo

theorem txFill_sameTransmit (n : Nat) {s t : State} (h : s.SameTransmit t) :
    (txFill n s).SameTransmit (txFill n t) := by
  obtain ⟨hbq, hfifo⟩ := h
  rcases t.txfifo.pop_cases with ⟨-, hp⟩ | ⟨-, hp⟩ <;>
    simp only [State.SameTransmit, txFill, hbq, hfifo, hp, and_self]

theorem txFillTo_sameTransmit (n turns : Nat) {s t : State} (h : s.SameTransmit t) :
    (txFillTo n turns s).SameTransmit (txFillTo n turns t) := by
  induction turns generalizing s t with
  | zero => exact h
  | succ k ih =>
    rw [txFillTo, txFillTo, h.1]
    split
    · exact ih (txFill_sameTransmit n h)
    · exact h

/-- The answer of the transmit framer, and what it leaves, depend on the bit queue and TXFIFO only. -/
theorem bqTxGet_sameTransmit (n : Nat) {s t : State} (h : s.SameTransmit t) :
    (bqTxGet n s).1 = (bqTxGet n t).1 ∧ (bqTxGet n s).2.SameTransmit (bqTxGet n t).2 := by
  obtain ⟨hbq, hfifo⟩ := txFillTo_sameTransmit n n h
  simp only [State.SameTransmit, bqTxGet, hbq, hfifo, and_self]

/-- BQG 2 in idle mode is the transmit framer's dibit (47_framing_fifo.md R268). -/
theorem exec_bqg_two {s : State} (hidle : s.sched.dp = .none) :
    exec (.bqg 2) s = .next { (bqTxGet 2 s).2 with resp := some (((bqTxGet 2 s).1.setWidth 24).setWidth 32) } :=
  (direct_idle s _ hidle).trans (done_eq_setWidth _ _)

/-! ### The symbol to transmit (R199) -/

/-- `s` with what the scrambler leaves of a bit: its registers and the line bit as the answer (45_scrambler.md R228). -/
def State.scrambled (d : Bool) (s : State) : State :=
  { s with scr := (scrEnc d s.scr).2, resp := some ((BitVec.ofBool (scrEnc d s.scr).1).setWidth 32) }

/-- SCRE in idle mode is one scrambled bit (45_scrambler.md R232). -/
theorem exec_scre (a : BitVec 8) {s : State} (hidle : s.sched.dp = .none) :
    exec (.scre a) s = .next (s.scrambled (a.getLsbD 0)) := by
  have hvalue (o : Bool) : ((BitVec.ofBool o).setWidth 24).setWidth 32 = (BitVec.ofBool o).setWidth 32 :=
    BitVec.setWidth_setWidth (by decide)
  rw [State.scrambled, ← hvalue]
  exact (direct_idle s _ hidle).trans (done_eq_setWidth _ _)

/-- The two bits given to the scrambler for a symbol: those of the framer in DATA after the hold-off, else 3 (R199). -/
def txDibit (s : State) : BitVec 2 :=
  if s.neg.txm = .data ∧ s.neg.thold = 0 then (bqTxGet 2 s).1.setWidth 2 else 3

theorem pskGetsym_raw {s : State} (h : s.neg.txm = .raw) : pskGetsym s = (0, s) := by
  rw [pskGetsym, h]
  rfl

theorem pskGetsym_scrambled {s : State} (h : s.neg.txm = .scrambled) :
    pskGetsym s = ((scrEncDibit (txDibit s) s.scr).1, { s with scr := (scrEncDibit (txDibit s) s.scr).2 }) := by
  rw [pskGetsym, txDibit, h]
  rfl

theorem pskGetsym_hold {s : State} (h : s.neg.txm = .data) (hhold : 0 < s.neg.thold) :
    pskGetsym s = ((scrEncDibit (txDibit s) s.scr).1, { s with
      scr := (scrEncDibit (txDibit s) s.scr).2
      neg := { s.neg with thold := s.neg.thold - 1 } }) := by
  have hdibit : txDibit s = 3 := if_neg fun hd => hhold.ne' hd.2
  rw [pskGetsym, hdibit, h]
  exact if_pos hhold

theorem pskGetsym_data {s : State} (h : s.neg.txm = .data) (hhold : s.neg.thold = 0) :
    pskGetsym s = ((scrEncDibit (txDibit s) s.scr).1, { s with
      scr := (scrEncDibit (txDibit s) s.scr).2
      bq := (bqTxGet 2 s).2.bq
      txfifo := (bqTxGet 2 s).2.txfifo }) := by
  have hdibit : txDibit s = (bqTxGet 2 s).1.setWidth 2 := if_pos ⟨h, hhold⟩
  have hscr : (bqTxGet 2 s).2.scr = s.scr := by rw [bqTxGet_eq]
  have hget : pskGetsym s = ((scrEncDibit (txDibit s) (bqTxGet 2 s).2.scr).1,
      { (bqTxGet 2 s).2 with scr := (scrEncDibit (txDibit s) (bqTxGet 2 s).2.scr).2 }) := by
    rw [pskGetsym, hdibit, h]
    exact if_neg hhold.not_gt
  rw [hget, hscr, bqTxGet_eq]

/-- The symbol is the guard symbol in RAW, and scrambled in the other modes (R199). -/
theorem pskGetsym_symbol (s : State) :
    (pskGetsym s).1 = if s.neg.txm = .raw then 0 else (scrEncDibit (txDibit s) s.scr).1 := by
  cases h : s.neg.txm with
  | raw => rw [pskGetsym_raw h, if_pos rfl]
  | scrambled => rw [pskGetsym_scrambled h, if_neg (by decide)]
  | data =>
    rw [if_neg (by decide)]
    rcases Nat.eq_zero_or_pos s.neg.thold with hhold | hhold
    · rw [pskGetsym_data h hhold]
    · rw [pskGetsym_hold h hhold]

/-- The state with other PSK registers. -/
def State.withPsk (p : Psk) (s : State) : State := { s with psk := p }

theorem txDibit_withPsk (p : Psk) (s : State) : txDibit (s.withPsk p) = txDibit s := by
  have hget := (bqTxGet_sameTransmit 2 (s := s.withPsk p) (t := s) ⟨rfl, rfl⟩).1
  rw [txDibit, txDibit, hget]
  rfl

/-- Pulling a symbol neither reads nor writes the PSK registers (R199). -/
theorem pskGetsym_withPsk (p : Psk) (s : State) :
    pskGetsym (s.withPsk p) = ((pskGetsym s).1, (pskGetsym s).2.withPsk p) := by
  have hdibit := txDibit_withPsk p s
  cases h : s.neg.txm with
  | raw =>
    rw [pskGetsym_raw h, pskGetsym_raw (s := s.withPsk p) h]
  | scrambled =>
    rw [pskGetsym_scrambled h, pskGetsym_scrambled (s := s.withPsk p) h, hdibit]
    rfl
  | data =>
    rcases Nat.eq_zero_or_pos s.neg.thold with hhold | hhold
    · obtain ⟨-, hbq, hfifo⟩ := bqTxGet_sameTransmit 2 (s := s.withPsk p) (t := s) ⟨rfl, rfl⟩
      rw [pskGetsym_data h hhold, pskGetsym_data (s := s.withPsk p) h hhold, hdibit, hbq, hfifo]
      rfl
    · rw [pskGetsym_hold h hhold, pskGetsym_hold (s := s.withPsk p) h hhold, hdibit]
      rfl

theorem pskGetsym_osc (s : State) : (pskGetsym s).2.osc = s.osc := by
  obtain ⟨h, c, b, n, x, he⟩ := pskGetsym_frame s
  rw [he]

/-- Two SCRE commands, the more significant bit first, are the scrambler's dibit (R199). -/
theorem exec_scre_dibit (d : BitVec 2) {s : State} (hidle : s.sched.dp = .none) : ∃ (e1 e0 : State) (r1 r0 : Word),
    exec (.scre ((d >>> 1).setWidth 8)) s = .next e1 ∧ e1.resp = some r1 ∧
    exec (.scre (d.setWidth 8)) e1 = .next e0 ∧ e0.resp = some r0 ∧
    (r1 <<< 1 ||| r0).setWidth 2 = (scrEncDibit d s.scr).1 ∧ e0.scr = (scrEncDibit d s.scr).2 := by
  have hbits : ((d >>> 1).setWidth 8).getLsbD 0 = d.getLsbD 1 ∧ (d.setWidth 8).getLsbD 0 = d.getLsbD 0 := by
    revert d
    decide
  have hjoin : ∀ b1 b0 : Bool, ((BitVec.ofBool b1).setWidth 32 <<< 1 ||| (BitVec.ofBool b0).setWidth 32).setWidth 2 =
      BitVec.ofBool b1 ++ BitVec.ofBool b0 := by
    decide
  have hfirst := exec_scre ((d >>> 1).setWidth 8) hidle
  have hsecond := exec_scre (d.setWidth 8) (s := s.scrambled (d.getLsbD 1)) hidle
  rw [hbits.1] at hfirst
  rw [hbits.2] at hsecond
  exact ⟨_, _, _, _, hfirst, rfl, hsecond, rfl, hjoin _ _, rfl⟩

/-! ### The modulator (R198, R208) -/

/-- The phase of the transmit carrier at a sample, with the quarter turns of a symbol at a symbol boundary (R198). -/
def txPhase (s : State) : BitVec 12 :=
  if s.psk.psymacc < 8000 then s.osc[10].phase else s.osc[10].phase + 1024 * (mapQ (pskGetsym s).1).setWidth 12

/-- PSYMACC after the pull of a sample: a symbol time less at a symbol boundary (R198). -/
def pulledAcc (s : State) : Nat := if s.psk.psymacc < 8000 then s.psk.psymacc else s.psk.psymacc - 8000

/-- The first part of a modulator sample: at a symbol boundary one symbol pulled, its quarter turns, and a symbol time
off the accumulator; inside a symbol nothing (R198). -/
theorem pskPull_eq (s : State) : pskPull s = { (if s.psk.psymacc < 8000 then s else (pskGetsym s).2) with
    osc := s.osc.set 10 ⟨txPhase s, s.osc[10].inc⟩
    psk := { s.psk with psymacc := pulledAcc s } } := by
  by_cases h : s.psk.psymacc < 8000
  · have hpull : pskPull s = s := if_neg h.not_ge
    have hosc : s.osc.set 10 ⟨s.osc[10].phase, s.osc[10].inc⟩ = s.osc := Vector.set_getElem_self _
    simp [hpull, txPhase, pulledAcc, h, hosc]
  · have hget := pskGetsym_withPsk { s.psk with psymacc := s.psk.psymacc - 8000 } s
    rw [State.withPsk, State.withPsk] at hget
    simp only [pskPull, if_pos (Nat.not_lt.1 h), hget, setPhase, setOsc, txPhase, pulledAcc, if_neg h, pskGetsym_osc,
      mul_comm]
    rfl

/-- The rest of a modulator sample: the filtered half cosine at the phase reached, one advance of the carrier, and the
sample's share of a symbol time (R198). -/
theorem pskMod_of_pull {s t : State} {p : BitVec 12} {acc : Nat} (hpull : pskPull s = { t with
      osc := s.osc.set 10 ⟨p, s.osc[10].inc⟩
      psk := { s.psk with psymacc := acc } }) :
    pskMod s = (firOut cfg.txf[s.psk.pdir.txChannel] (shiftIn (asr (cosAt p) 1) s.psk.txd), { t with
      osc := s.osc.set 10 ⟨p + s.osc[10].inc, s.osc[10].inc⟩
      psk := { s.psk with txd := shiftIn (asr (cosAt p) 1) s.psk.txd, psymacc := acc + 600 } }) := by
  simp [pskMod, hpull, firTx, oscCos, oscAdv, setPhase, setOsc]

/-- PSKM in idle mode is one modulator sample (R208). -/
theorem exec_pskm {s : State} (hidle : s.sched.dp = .none) :
    exec .pskm s = .next { (pskMod s).2 with resp := some ((BitVec.ofInt 16 (pskMod s).1).setWidth 32) } :=
  (direct_idle s _ hidle).trans (done_sample _ _)

/-- The dibit of a symbol, from the response of BQG 2 (R199). -/
theorem txDibit_eq_response (s : State) : txDibit s =
    if s.neg.txm = .data ∧ s.neg.thold = 0 then (((bqTxGet 2 s).1.setWidth 24).setWidth 32).setWidth 2 else 3 := by
  rw [BitVec.setWidth_setWidth_of_le _ (by decide), BitVec.setWidth_setWidth_of_le _ (by decide), txDibit]

/-- Settles O45: what the symbol and its state are in each transmit mode, and the sample. -/
theorem pskModulateOneSample : Obligations.PskModulateOneSample := by
  unfold Obligations.PskModulateOneSample
  refine fun s => ⟨direct_busy s _, fun hidle => ?_⟩
  obtain ⟨e1, e0, r1, r0, hexec1, hresp1, hexec0, hresp0, hsym, hscr⟩ := exec_scre_dibit (txDibit s) hidle
  refine ⟨_, e1, e0, (pskGetsym s).2, _, _, r1, r0, txDibit s, (pskGetsym s).1, txPhase s, _, exec_bqg_two hidle, rfl,
    txDibit_eq_response s, hexec1, hresp1, hexec0, hresp0, ?_, fun hraw => ?_, fun hpattern => ?_,
    fun hdata hhold => ?_, fun hdata hhold => ?_, ?_, rfl, exec_pskm hidle, ?_⟩
  · rw [pskGetsym_symbol, hsym]
  · rw [pskGetsym_raw hraw]
  · rw [pskGetsym_scrambled hpattern, hscr]
  · rw [pskGetsym_hold hdata hhold, hscr]
  · rw [pskGetsym_data hdata hhold, hscr]
  · exact congrArg (fun q : BitVec 12 => if s.psk.psymacc < 8000 then s.osc[10].phase else s.osc[10].phase + 1024 * q)
      (setWidth_mapQ _)
  · rw [pskMod_of_pull (pskPull_eq s)]
    rfl

/-! ### The correlation (R205) -/

/-- The two halves of the window together are the plain correlation over it, for a wave that half a turn negates. -/
theorem halves_eq_correlation {wave : BitVec 12 → Int} (hwave : ∀ p, wave (p + 2048) = -wave p) (x : Vector Int 8)
    (p c : BitVec 12) : halves wave x p c = sigma 8 fun k => tap x k * wave (p - BitVec.ofNat 12 k * c) := by
  rw [halves, sigma_add 4 4]
  simp only [hwave, mul_neg, sigma_eq_sum, Finset.sum_neg_distrib, sub_neg_eq_add]

/-- A delay line read within its length. -/
theorem tap_eq_getElem {n : Nat} (d : Vector Int n) {k : Nat} (hk : k < n) : tap d k = d[k] := by
  simp [tap, hk]

/-! ### The demodulator (R206, R209) -/

/-- The answer of PSKD, bit fields as shifts (R209). -/
theorem setWidth_pskdValue (ph cur : BitVec 2) (e : Bool) : (0#19 ++ ph ++ cur ++ BitVec.ofBool e).setWidth 32 =
    (BitVec.ofBool e).setWidth 32 ||| (cur.setWidth 32 <<< 1) ||| (ph.setWidth 32 <<< 3) := by
  simp only [setWidth_append, BitVec.shiftLeft_or_distrib]
  simp [BitVec.or_assoc, ← BitVec.shiftLeft_add]

/-- The negotiation leaves the timing unit alone (46_psk_negotiation.md R242). -/
theorem negPut_tim (sym : BitVec 2) (s : State) : (negPut sym s).2.tim = s.tim := by
  obtain ⟨g, k, b, c, e, f, h⟩ := negPut_frame sym s
  rw [h]

/-- The state after a demodulator sample: an emitted symbol goes to the negotiation (R206). -/
def pskAfter (x : Int) (s : State) : State :=
  if pskEmits x s = true then (negPut (pskHeard x s).tim.tcur (pskHeard x s)).2 else pskHeard x s

theorem pskDem_outcome (x : Int) (s : State) : ∃ ev, pskDem x s = (pskEmits x s, ev, pskAfter x s) := by
  rw [pskDem_eq, pskAfter]
  split <;> exact ⟨_, rfl⟩

theorem pskAfter_tim (x : Int) (s : State) : (pskAfter x s).tim = (pskHeard x s).tim := by
  rw [pskAfter]
  split
  · exact negPut_tim _ _
  · rfl

/-- PSKD in idle mode is one demodulator sample, with the answer `e | val << 1 | PH << 3` (R209). -/
theorem exec_pskd (b : BitVec 16) {s : State} (hidle : s.sched.dp = .none) :
    exec (.pskd b) s = .next { pskAfter b.toInt s with
      resp := some ((BitVec.ofBool (pskEmits b.toInt s)).setWidth 32 |||
        ((pskHeard b.toInt s).tim.tcur.setWidth 32 <<< 1) |||
        ((pskAfter b.toInt s).neg.ph.id.setWidth 32 <<< 3)) } := by
  obtain ⟨ev, hdem⟩ := pskDem_outcome (sampleOf b) s
  have hexec : exec (.pskd b) s = execPskd b s := rfl
  rw [hexec, execPskd, direct_idle s _ hidle, hdem, ← pskAfter_tim, ← setWidth_pskdValue]
  exact done_eq_setWidth _ _

/-- The correlator's line after a sample: the filtered sample scaled into it (R205). -/
def rxLine (x : Int) (s : State) : Vector Int 8 := shiftIn (asr (firRx x s).1 4) s.psk.px

/-- The correlation of a sample against one wave of the reference (R205). -/
def rxCorr (wave : BitVec 12 → Int) (x : Int) (s : State) : Int :=
  asr (halves wave (rxLine x s) s.osc[11].phase s.osc[11].inc) 15

/-- What the filters and the timing step of a demodulator sample leave (R205, R206). -/
theorem pskHeard_eq (x : Int) (s : State) : pskHeard x s = { s with
    osc := s.osc.set 11 ⟨s.osc[11].phase + s.osc[11].inc, s.osc[11].inc⟩
    psk := { s.psk with
      rxd := shiftIn x s.psk.rxd
      px := rxLine x s
      zi := shiftIn (rxCorr cosAt x s) s.psk.zi
      zq := shiftIn (rxCorr sinAt x s) s.psk.zq }
    tim := (pskHeard x s).tim } := by
  rw [pskHeard]
  rfl

theorem timStep_heard (x : Int) (s : State) :
    (pskEmits x s, (pskHeard x s).tim) = timStep (mapS (pskClass x s).1) s.tim := by
  have htim : (pskClass x s).2.tim = s.tim := rfl
  rw [pskEmits, pskHeard, htim]

/-- The class of a sample is the sign test of its pair against the oldest pair of the history (R205). -/
theorem pskClass_quadrant (x : Int) (s : State) : (pskClass x s).1 =
    stepBetween (rxCorr cosAt x s) (rxCorr sinAt x s) s.psk.zi[12] s.psk.zq[12] := by
  rw [← tap_eq_getElem, ← tap_eq_getElem]
  rfl

/-- Settles O46: the pair by the plain correlations, the sign test, the timing step and the symbol it may emit. -/
theorem pskDemodulateOneSample : Obligations.PskDemodulateOneSample := by
  unfold Obligations.PskDemodulateOneSample
  refine fun b s => ⟨direct_busy s _, fun hidle => ?_⟩
  have hclass := pskClass_quadrant b.toInt s
  refine ⟨_, rxLine b.toInt s, rxCorr cosAt b.toInt s, rxCorr sinAt b.toInt s, _, _, (pskClass b.toInt s).1,
    mapS (pskClass b.toInt s).1, (pskHeard b.toInt s).tim, pskEmits b.toInt s, pskHeard b.toInt s, _, rfl, rfl, ?_, ?_,
    rfl, rfl, fun hx hy => hclass.trans (quadrant_zero hx hy), fun hx hy => hclass.trans (quadrant_one hx hy),
    fun hx hy => hclass.trans (quadrant_two hx hy), fun hx hy => hclass.trans (quadrant_three hx hy), ?_,
    timStep_heard _ s, pskHeard_eq _ s, exec_pskd b hidle, rfl⟩
  · exact congrArg (asr · 15) (halves_eq_correlation cosAt_add_half_turn _ _ _)
  · exact congrArg (asr · 15) (halves_eq_correlation sinAt_add_half_turn _ _ _)
  · generalize (pskClass b.toInt s).1 = quad
    exact mapS_eq quad

end Sys2Proof.Machine
end

section
/-! Scrambler.lean: the scrambler and the descrambler as functions of the line bits, their inverse law, the
self-synchronisation and their commands (45_scrambler.md R226 to R233). -/

namespace Sys2Proof.Machine

/-! ### One bit (R228, R229) -/

/-- The run counter after line bit `o`; a forced inversion restarts it (R228, R229). -/
def runAfter (ones : Nat) (o : Bool) : Nat := if ones = 64 then 0 else if o then ones + 1 else 0

/-- What a side with line register `r` and run counter `ones` adds to its bit: the feedback, and the forced inversion
after 64 line ones (R226, R228, R229). -/
def whitening (r : BitVec 17) (ones : Nat) : Bool := (r.getLsbD 13 ^^ r.getLsbD 16) ^^ decide (ones = 64)

theorem scrEnc_eq (d : Bool) (c : Scr) : scrEnc d c = (d ^^ whitening c.sr c.sones, { c with
    sr := shiftLine c.sr (d ^^ whitening c.sr c.sones)
    sones := runAfter c.sones (d ^^ whitening c.sr c.sones) }) := by
  by_cases hforced : c.sones = 64
  · simp [scrEnc, whitening, runAfter, feedback, hforced]
  · simp [scrEnc, whitening, runAfter, feedback, countOnes, hforced]

theorem scrDec_eq (r : Bool) (c : Scr) : scrDec r c = (r ^^ whitening c.dr c.dones, { c with
    dr := shiftLine c.dr r
    dones := runAfter c.dones r }) := by
  by_cases hforced : c.dones = 64
  · simp [scrDec, whitening, runAfter, feedback, hforced]
  · simp [scrDec, whitening, runAfter, feedback, countOnes, hforced]

/-! ### A sequence: what both sides hold is determined by the line bits (R226) -/

theorem scrambleAll_length (bits : List Bool) (c : Scr) : (scrambleAll bits c).1.length = bits.length := by
  induction bits generalizing c with
  | nil => rfl
  | cons b rest ih => exact congrArg (· + 1) (ih _)

theorem scrambleAll_state (bits : List Bool) (c : Scr) :
    (scrambleAll bits c).2.sr = (scrambleAll bits c).1.foldl shiftLine c.sr ∧
    (scrambleAll bits c).2.sones = (scrambleAll bits c).1.foldl runAfter c.sones := by
  induction bits generalizing c with
  | nil => exact ⟨rfl, rfl⟩
  | cons b rest ih =>
    have hrest := ih (scrEnc b c).2
    simpa [scrambleAll, scrEnc_eq] using hrest

theorem descrambleAll_state (line : List Bool) (c : Scr) :
    (descrambleAll line c).2.dr = line.foldl shiftLine c.dr ∧
    (descrambleAll line c).2.dones = line.foldl runAfter c.dones := by
  induction line generalizing c with
  | nil => exact ⟨rfl, rfl⟩
  | cons r rest ih =>
    have hrest := ih (scrDec r c).2
    simpa [descrambleAll, scrDec_eq] using hrest

/-! ### The inverse law (R230) -/

/-- A descrambler `d` that holds the register and the count of a scrambler `c` gives the scrambled sequence back: the
two sides add the same bit and then take in the same line bit. -/
theorem descrambleAll_scrambleAll (bits : List Bool) {c d : Scr} (hreg : d.dr = c.sr) (hcount : d.dones = c.sones) :
    (descrambleAll (scrambleAll bits c).1 d).1 = bits := by
  induction bits generalizing c d with
  | nil => rfl
  | cons b rest ih =>
    have hrest := ih (c := (scrEnc b c).2) (d := (scrDec (scrEnc b c).1 d).2)
      (by simp [scrEnc_eq, scrDec_eq, hreg]) (by simp [scrEnc_eq, scrDec_eq, hcount])
    have hbit : (scrDec (scrEnc b c).1 d).1 = b := by simp [scrEnc_eq, scrDec_eq, hreg, hcount]
    exact congrArg₂ List.cons hbit hrest

/-- Settles O53: equal sides stay equal, since both are driven by the line bits, and give the sequence back. -/
theorem scramblerInverseLaw : Obligations.ScramblerInverseLaw := by
  unfold Obligations.ScramblerInverseLaw
  intro bits c hreg hcount
  obtain ⟨hsr, hsones⟩ := scrambleAll_state bits c
  obtain ⟨hdr, hdones⟩ := descrambleAll_state (scrambleAll bits c).1 c
  refine ⟨descrambleAll_scrambleAll bits hreg.symm hcount.symm, ?_, ?_⟩
  · rw [hdr, hsr, hreg]
  · rw [hdones, hsones, hcount]

/-! ### Self-synchronisation (R230) -/

/-- What a register held before a line sequence is in it only as many places up as there are line bits. -/
theorem foldl_shiftLine (line : List Bool) (r : BitVec 17) :
    line.foldl shiftLine r = r <<< line.length ||| line.foldl shiftLine 0 := by
  induction line using List.reverseRecOn with
  | nil => simp
  | append_singleton line o ih =>
    simp [shiftLine, ih, BitVec.shiftLeft_or_distrib, BitVec.shiftLeft_add, BitVec.or_assoc]

/-- 17 line bits fill a register, whatever it held. -/
theorem foldl_shiftLine_fills {line : List Bool} (hlen : 17 ≤ line.length) (r q : BitVec 17) :
    line.foldl shiftLine r = line.foldl shiftLine q := by
  rw [foldl_shiftLine line r, foldl_shiftLine line q, BitVec.shiftLeft_eq_zero hlen, BitVec.shiftLeft_eq_zero hlen]

/-- A line zero restarts a run counter, forced inversion or not. -/
theorem runAfter_false (ones : Nat) : runAfter ones false = 0 := by simp [runAfter]

/-- After a zero among the line bits a run counter does not depend on what it was before them. -/
theorem foldl_runAfter_restarts {line : List Bool} (hzero : false ∈ line) (m n : Nat) :
    line.foldl runAfter m = line.foldl runAfter n := by
  induction line generalizing m n with
  | nil => simp at hzero
  | cons o rest ih =>
    cases o with
    | false => rw [List.foldl_cons, List.foldl_cons, runAfter_false, runAfter_false]
    | true => exact ih (by simpa using hzero) _ _

/-- Settles O54: 17 line bits fill both registers alike, a zero among them restarts both counts, and from equal sides
the inverse law applies. -/
theorem descramblerSynchronises : Obligations.DescramblerSynchronises := by
  unfold Obligations.DescramblerSynchronises
  intro bits more c d hlen
  obtain ⟨hsr, hsones⟩ := scrambleAll_state bits c
  obtain ⟨hdr, hdones⟩ := descrambleAll_state (scrambleAll bits c).1 d
  have hreg : (descrambleAll (scrambleAll bits c).1 d).2.dr = (scrambleAll bits c).2.sr := by
    rw [hdr, hsr]
    exact foldl_shiftLine_fills (by rwa [scrambleAll_length]) _ _
  refine ⟨hreg, fun hzero => ?_⟩
  have hcount : (descrambleAll (scrambleAll bits c).1 d).2.dones = (scrambleAll bits c).2.sones := by
    rw [hdones, hsones]
    exact foldl_runAfter_restarts hzero _ _
  exact ⟨hcount, descrambleAll_scrambleAll more hreg hcount⟩

/-! ### The commands (R231 to R233) -/

/-- SCRD in idle mode is one descrambled bit (R233). -/
theorem exec_scrd (a : BitVec 8) {s : State} (hidle : s.sched.dp = .none) : exec (.scrd a) s = .next { s with
    scr := (scrDec (a.getLsbD 0) s.scr).2
    resp := some ((BitVec.ofBool (scrDec (a.getLsbD 0) s.scr).1).setWidth 32) } := by
  have hvalue (d : Bool) : ((BitVec.ofBool d).setWidth 24).setWidth 32 = (BitVec.ofBool d).setWidth 32 :=
    BitVec.setWidth_setWidth (by decide)
  rw [← hvalue]
  exact (direct_idle s _ hidle).trans (done_eq_setWidth _ _)

/-- Settles O52: the commands in idle mode are the initial values, one scrambled bit and one descrambled bit. -/
theorem scramblerCommands : Obligations.ScramblerCommands := by
  unfold Obligations.ScramblerCommands
  refine fun a s => ⟨fun hactive i hi => ?_, fun hidle => ⟨direct_idle s _ hidle, ⟨_, rfl, ?_⟩, ⟨_, rfl, ?_⟩⟩⟩
  · simp only [List.mem_cons, List.not_mem_nil, or_false] at hi
    obtain rfl | rfl | rfl := hi <;> exact direct_busy s _ hactive
  · rw [exec_scre a hidle, State.scrambled, scrEnc_eq, whitening, ← Bool.xor_assoc]
    rfl
  · rw [exec_scrd a hidle, scrDec_eq, whitening, ← Bool.xor_assoc]
    rfl

end Sys2Proof.Machine
end

section
/-! PskNegotiation.lean: the negotiation sequencer, one lemma per branch of `neg_put`; the counters of a run and what
every step keeps of them; the RAW run (46_psk_negotiation.md R242 to R252). -/

namespace Sys2Proof.Machine

/-! ### The branches of the counting part (R242) -/

/-- The registers after a counted symbol: NGOOD or NERR and NRUN one up, and the answerer's early commit on the NGOOD
just incremented. -/
def negCounted (ok : Bool) (dir : Direction) (n : Neg) : Neg :=
  { n with
    nrun := n.nrun + 1
    ngood := if ok then n.ngood + 1 else n.ngood
    nerr := if ok then n.nerr else n.nerr + 1
    txm := if n.ph = .scrambled ∧ dir = .answerer ∧ n.txm = .raw ∧ 48 ≤ (if ok then n.ngood + 1 else n.ngood) then
      .scrambled else n.txm }

theorem negEarly_negTally (ok : Bool) (dir : Direction) (n : Neg) :
    negEarly dir (negTally ok n) = negCounted ok dir n := by
  have hearly (m : Neg) : negEarly dir m = { m with
      txm := if m.ph = .scrambled ∧ dir = .answerer ∧ m.txm = .raw ∧ 48 ≤ m.ngood then .scrambled else m.txm } := by
    unfold negEarly
    split
    · exact congrArg (fun x => { m with txm := x }) (if_pos ‹_›).symm
    · exact congrArg (fun x => { m with txm := x }) (if_neg ‹_›).symm
  rw [hearly]
  cases ok <;> rfl

theorem negCount_restarts {ok : Bool} {r : RunRule} {n : Neg} (dir : Direction) (hok : ok = false)
    (hfloor : n.ngood < r.floor) : negCount ok r dir n = (.none, negRestart r n) := by
  simp [negCount, hok, hfloor]

theorem negCount_counts {ok : Bool} {r : RunRule} {n : Neg} (dir : Direction) (h : ok = true ∨ r.floor ≤ n.ngood) :
    negCount ok r dir n = negJudge r dir (negCounted ok dir n) := by
  rw [negCount, negEarly_negTally, if_neg]
  rcases h with hok | hfloor
  · simp [hok]
  · simp [hfloor]

theorem negJudge_running {r : RunRule} {n : Neg} (dir : Direction) (h : n.nrun < n.nbud) :
    negJudge r dir n = (.none, n) := if_neg h.not_ge

theorem negJudge_success {r : RunRule} {n : Neg} (dir : Direction) (h : n.nbud ≤ n.nrun) (herr : n.nerr < r.emax) :
    negJudge r dir n = negSucceed dir n := (if_pos h).trans (if_pos herr)

/-- The one retry: the budget one length more, the errors cleared (R247). -/
def negExtend (r : RunRule) (n : Neg) : Neg := { n with nretry := true, nbud := n.nbud + r.len, nerr := 0 }

theorem negJudge_retry {r : RunRule} {n : Neg} (dir : Direction) (h : n.nbud ≤ n.nrun) (herr : r.emax ≤ n.nerr)
    (hretry : n.nretry = false) : negJudge r dir n = (.none, negExtend r n) := by
  simp [negJudge, negExtend, h, herr.not_gt, hretry]

theorem negJudge_failure {r : RunRule} {n : Neg} (dir : Direction) (h : n.nbud ≤ n.nrun) (herr : r.emax ≤ n.nerr)
    (hretry : n.nretry = true) : negJudge r dir n = (.fail, { n with ph := .failed }) := by
  simp [negJudge, h, herr.not_gt, hretry]

theorem negSucceed_raw {n : Neg} (dir : Direction) (h : n.ph = .raw) : negSucceed dir n = (.scr, { n with
    ph := .scrambled
    txm := if dir = .originator then .scrambled else n.txm
    nrun := 0
    ngood := 0
    nerr := 0
    nbud := 162
    nretry := false }) := if_pos h

theorem negSucceed_scrambled {n : Neg} (dir : Direction) (h : n.ph = .scrambled) : negSucceed dir n = (.data, { n with
    ph := .data
    txm := .data
    nrun := 0
    ngood := 0
    nerr := 0
    nretry := false
    thold := 240 }) := if_neg (by simp [h])

/-! ### The phases of `neg_put` (R242) -/

/-- A counted symbol as a step of the machine: the negotiation registers, and the descrambler `c` after it. -/
def State.counts (ok : Bool) (r : RunRule) (c : Scr) (s : State) : NegEvent × State :=
  ((negCount ok r s.psk.pdir s.neg).1, { s with scr := c, neg := (negCount ok r s.psk.pdir s.neg).2 })

theorem State.counts_of_judge {ok : Bool} {r : RunRule} {c : Scr} {s : State} {ev : NegEvent} {n : Neg}
    (hok : ok = true ∨ r.floor ≤ s.neg.ngood)
    (hjudge : negJudge r s.psk.pdir (negCounted ok s.psk.pdir s.neg) = (ev, n)) :
    s.counts ok r c = (ev, { s with scr := c, neg := n }) := by
  rw [State.counts, negCount_counts _ hok, hjudge]

theorem negPut_raw {sym : BitVec 2} {s : State} {ok : Bool} (h : s.neg.ph = .raw) (hok : ok = true ↔ sym = 0) :
    negPut sym s = s.counts ok rawRule s.scr := by
  have hexpected : (sym == cfg.rawSym) = ok := by
    rw [Bool.eq_iff_iff, beq_iff_eq, hok]
    rfl
  simp only [negPut, h, hexpected]
  rfl

theorem negPut_scrambled {sym : BitVec 2} {s : State} {ok : Bool} (h : s.neg.ph = .scrambled)
    (hok : ok = true ↔ (scrDecDibit sym s.scr).1 = 3) :
    negPut sym s = s.counts ok scrRule (scrDecDibit sym s.scr).2 := by
  have hexpected : ((scrDecDibit sym s.scr).1 == cfg.pattern) = ok := by
    rw [Bool.eq_iff_iff, beq_iff_eq, hok]
    rfl
  simp only [negPut, h, hexpected]
  rfl

theorem negPut_data (sym : BitVec 2) {s : State} (h : s.neg.ph = .data) : negPut sym s =
    (.none, (bqRxPut 2 ((scrDecDibit sym s.scr).1.setWidth 16) { s with scr := (scrDecDibit sym s.scr).2 }).2) := by
  simp only [negPut, h]

theorem negPut_failed (sym : BitVec 2) {s : State} (h : s.neg.ph = .failed) : negPut sym s = (.none, s) := by
  simp only [negPut, h]

/-! ### The counters of a run (R252) -/

/-- A run of the counted phase with the constants `r`, its budget possibly just used up. -/
structure Neg.Counting (r : RunRule) (n : Neg) : Prop where
  phase : (n.ph = .raw ∧ n.txm = .raw ∧ r = rawRule) ∨ (n.ph = .scrambled ∧ n.txm ≠ .data ∧ r = scrRule)
  hold : n.thold ≤ 240
  good : n.ngood ≤ n.nrun
  errors : n.nerr ≤ n.nrun
  spent : n.nrun ≤ n.nbud
  budget : n.nbud = if n.nretry then 2 * r.len else r.len
  floor : 0 < n.nerr ∨ n.nretry = true → r.floor ≤ n.ngood

theorem Neg.Counted.counting_raw {n : Neg} (h : n.Counted) (hph : n.ph = .raw) :
    n.Counting rawRule ∧ n.nrun < n.nbud := by
  obtain ⟨hhold, hgood, herr, hspent, -, hraw, -, -, -⟩ := h
  obtain ⟨htxm, hroom, hbudget, hfloor⟩ := hraw hph
  exact ⟨⟨.inl ⟨hph, htxm, rfl⟩, hhold, hgood, herr, hspent, hbudget, hfloor⟩, hroom⟩

theorem Neg.Counted.counting_scrambled {n : Neg} (h : n.Counted) (hph : n.ph = .scrambled) :
    n.Counting scrRule ∧ n.nrun < n.nbud := by
  obtain ⟨hhold, hgood, herr, hspent, -, -, hscr, -, -⟩ := h
  obtain ⟨htxm, hroom, hbudget, hfloor⟩ := hscr hph
  exact ⟨⟨.inr ⟨hph, htxm, rfl⟩, hhold, hgood, herr, hspent, hbudget, hfloor⟩, hroom⟩

namespace Neg.Counting

variable {r : RunRule} {n : Neg}

/-- The constants of a run (R241). -/
theorem rule (h : n.Counting r) : 0 < r.len ∧ r.len ≤ 162 ∧ 0 < r.emax := by
  rcases h.phase with ⟨-, -, rfl⟩ | ⟨-, -, rfl⟩ <;> decide

/-- No budget exceeds two lengths of the longer run. -/
theorem budget_le (h : n.Counting r) : n.nbud ≤ 324 := by
  have hlen := h.rule.2.1
  have hbudget := h.budget
  split at hbudget <;> omega

theorem counted (h : n.Counting r) (hroom : n.nrun < n.nbud) : n.Counted := by
  refine ⟨h.hold, h.good, h.errors, h.spent, h.budget_le, ?_⟩
  rcases h.phase with ⟨hph, htxm, rfl⟩ | ⟨hph, htxm, rfl⟩
  · exact ⟨fun _ => ⟨htxm, hroom, h.budget, h.floor⟩, by simp [hph], by simp [hph], by simp [hph]⟩
  · exact ⟨by simp [hph], fun _ => ⟨htxm, hroom, h.budget, h.floor⟩, by simp [hph], by simp [hph]⟩

/-- The early commit starts scrambled output, not data (R245). -/
theorem negCounted_txm_ne_data (htxm : n.txm ≠ .data) (ok : Bool) (dir : Direction) :
    (negCounted ok dir n).txm ≠ .data := by
  rw [negCounted]
  dsimp only
  generalize (if ok then n.ngood + 1 else n.ngood) = good
  split
  · decide
  · exact htxm

/-- A run is thrown away only below the floor, so its retry was not used. -/
theorem restart (h : n.Counting r) (hfloor : n.ngood < r.floor) : (negRestart r n).Counted := by
  have hretry : n.nretry = false := eq_false_of_ne_true fun hr => hfloor.not_ge (h.floor (.inr hr))
  have hrun : (negRestart r n).Counting r := ⟨h.phase, h.hold, le_rfl, le_rfl, Nat.zero_le _,
    by simp [negRestart, hretry], by simp [negRestart, hretry]⟩
  exact hrun.counted h.rule.1

/-- An error is counted only from the floor on, and TXM leaves RAW only in SCRAMBLED. -/
theorem count (h : n.Counting r) (hroom : n.nrun < n.nbud) {ok : Bool} (hok : ok = true ∨ r.floor ≤ n.ngood)
    (dir : Direction) : (negCounted ok dir n).Counting r where
  phase := h.phase.imp (fun ⟨hph, htxm, hr⟩ => ⟨hph, by simp [negCounted, hph, htxm], hr⟩)
    fun ⟨hph, htxm, hr⟩ => ⟨hph, negCounted_txm_ne_data htxm ok dir, hr⟩
  hold := h.hold
  good := by
    have hgood := h.good
    simp only [negCounted]
    split <;> omega
  errors := by
    have herrors := h.errors
    simp only [negCounted]
    split <;> omega
  spent := hroom
  budget := h.budget
  floor := by
    have hfloor := h.floor
    simp only [negCounted]
    cases ok with
    | true => exact fun hcase => (hfloor hcase).trans (Nat.le_succ _)
    | false => exact fun _ => hok.resolve_left (by decide)

/-- The errors that cost the retry were counted from the floor on. -/
theorem extend (h : n.Counting r) (herr : r.emax ≤ n.nerr) (hretry : n.nretry = false) :
    (negExtend r n).Counted := by
  have hbudget := h.budget
  obtain ⟨hlen, -, hemax⟩ := h.rule
  have hspent := h.spent
  have hrun : (negExtend r n).Counting r := ⟨h.phase, h.hold, h.good, Nat.zero_le _,
    hspent.trans (Nat.le_add_right _ _), by simp [negExtend, hbudget, hretry, Nat.two_mul],
    fun _ => h.floor (.inl (by omega))⟩
  exact hrun.counted (show n.nrun < n.nbud + r.len by omega)

/-- From RAW a success begins the run of SCRAMBLED, from SCRAMBLED it ends the counting. -/
theorem succeed (h : n.Counting r) (dir : Direction) : (negSucceed dir n).2.Counted := by
  rcases h.phase with ⟨hph, htxm, rfl⟩ | ⟨hph, htxm, rfl⟩
  · rw [negSucceed_raw dir hph]
    have hrun : Neg.Counting scrRule { n with
        ph := .scrambled
        txm := if dir = .originator then .scrambled else n.txm
        nrun := 0
        ngood := 0
        nerr := 0
        nbud := 162
        nretry := false } :=
      ⟨.inr ⟨rfl, by dsimp only; split <;> simp [htxm], rfl⟩, h.hold, le_rfl, le_rfl, Nat.zero_le _, rfl, by simp⟩
    exact hrun.counted (by norm_num)
  · rw [negSucceed_scrambled dir hph]
    exact ⟨le_rfl, le_rfl, le_rfl, Nat.zero_le _, h.budget_le, nofun, nofun, fun _ => ⟨rfl, rfl⟩, nofun⟩

theorem fail (h : n.Counting r) (hretry : n.nretry = true) : Neg.Counted { n with ph := .failed } := by
  have htxm : n.txm ≠ .data := by
    rcases h.phase with ⟨-, htxm, -⟩ | ⟨-, htxm, -⟩
    · simp [htxm]
    · exact htxm
  exact ⟨h.hold, h.good, h.errors, h.spent, h.budget_le, nofun, nofun, nofun, fun _ => ⟨htxm, hretry⟩⟩

/-- A run is judged as R242 says, and every judgement leaves consistent counters. -/
theorem judge (h : n.Counting r) (dir : Direction) : (negJudge r dir n).2.Counted := by
  rcases Nat.lt_or_ge n.nrun n.nbud with hroom | hspent
  · rw [negJudge_running dir hroom]
    exact h.counted hroom
  · rcases Nat.lt_or_ge n.nerr r.emax with herr | herr
    · rw [negJudge_success dir hspent herr]
      exact h.succeed dir
    · cases hretry : n.nretry with
      | false =>
        rw [negJudge_retry dir hspent herr hretry]
        exact h.extend herr hretry
      | true =>
        rw [negJudge_failure dir hspent herr hretry]
        exact h.fail hretry

/-- A symbol of a counted phase restarts the run or is counted and judged. -/
theorem symbol (h : n.Counting r) (hroom : n.nrun < n.nbud) (ok : Bool) (dir : Direction) :
    (negCount ok r dir n).2.Counted := by
  have hcounted (hok : ok = true ∨ r.floor ≤ n.ngood) : (negCount ok r dir n).2.Counted := by
    rw [negCount_counts dir hok]
    exact (h.count hroom hok dir).judge dir
  rcases Nat.lt_or_ge n.ngood r.floor with hfloor | hfloor
  · cases ok with
    | true => exact hcounted (.inl rfl)
    | false =>
      rw [negCount_restarts dir rfl hfloor]
      exact h.restart hfloor
  · exact hcounted (.inr hfloor)

end Neg.Counting

/-! ### What the procedures keep of the counters -/

/-- If the negotiation counters of `s` are consistent, those of `t` are. -/
structure KeepsNegotiation (s t : State) : Prop where
  counted : s.neg.Counted → t.neg.Counted := by exact id

namespace KeepsNegotiation

theorem refl (s : State) : KeepsNegotiation s s := {}

theorem trans {s t u : State} (h : KeepsNegotiation s t) (k : KeepsNegotiation t u) : KeepsNegotiation s u :=
  ⟨k.counted ∘ h.counted⟩

theorem of_eq {s t : State} (h : t.neg = s.neg) : KeepsNegotiation s t := ⟨fun hs => h ▸ hs⟩

end KeepsNegotiation

theorem detStep_neg (x : Int) (s : State) : (detStep x s).2.neg = s.neg := by
  obtain ⟨o, d, h⟩ := detStep_frame x s
  rw [h]

theorem dtmfSample_neg (s : State) : (dtmfSample s).2.neg = s.neg := by
  obtain ⟨o, r, h⟩ := dtmfSample_frame s
  rw [h]

theorem bqRxPut_neg (n : Nat) (v : BitVec 16) (s : State) : (bqRxPut n v s).2.neg = s.neg := by
  obtain ⟨b, c, e, f, h⟩ := bqRxPut_frame n v s
  rw [h]

theorem bqTxGet_neg (n : Nat) (s : State) : (bqTxGet n s).2.neg = s.neg := by
  obtain ⟨b, c, x, h⟩ := bqTxGet_frame n s
  rw [h]

theorem zeroFill_neg (left i : Nat) (s : State) : (zeroFill left i s).neg = s.neg := by
  obtain ⟨m, h⟩ := zeroFill_frame left i s
  rw [h]

/-- Every symbol keeps the counters: only RAW and SCRAMBLED write them (R242). -/
theorem negPut_keepsNegotiation (sym : BitVec 2) (s : State) : KeepsNegotiation s (negPut sym s).2 := by
  refine ⟨fun hs => ?_⟩
  cases hph : s.neg.ph with
  | raw =>
    obtain ⟨hrun, hroom⟩ := hs.counting_raw hph
    rw [negPut_raw hph (decide_eq_true_iff (p := sym = 0))]
    exact hrun.symbol hroom _ _
  | scrambled =>
    obtain ⟨hrun, hroom⟩ := hs.counting_scrambled hph
    rw [negPut_scrambled hph (decide_eq_true_iff (p := (scrDecDibit sym s.scr).1 = 3))]
    exact hrun.symbol hroom _ _
  | data =>
    rw [negPut_data sym hph]
    exact (KeepsNegotiation.of_eq (bqRxPut_neg 2 _ { s with scr := (scrDecDibit sym s.scr).2 })).counted hs
  | failed =>
    rw [negPut_failed sym hph]
    exact hs

theorem pskDem_keepsNegotiation (x : Int) (s : State) : KeepsNegotiation s (pskDem x s).2.2 := by
  have hheard : (pskHeard x s).neg = s.neg := rfl
  rw [pskDem_eq]
  dsimp only
  split
  · exact (KeepsNegotiation.of_eq hheard).trans (negPut_keepsNegotiation _ _)
  · exact .of_eq hheard

/-- A modulator sample changes of these registers only the hold-off, which stays in its range (R199). -/
theorem pskMod_keepsNegotiation (s : State) : KeepsNegotiation s (pskMod s).2 := by
  have hhold := (pskMod_keepsBounds s).thold
  obtain ⟨o, p, h, c, b, n, x, he⟩ := pskMod_frame s
  rw [he] at hhold ⊢
  exact ⟨fun ⟨hs, hrest⟩ => ⟨hhold hs, hrest⟩⟩

theorem pskInit_keepsNegotiation (d : Direction) (s : State) : KeepsNegotiation s (pskInit d s) := by
  have hinit : Neg.Counted ⟨.raw, .raw, 0, 0, 0, 96, false, 0⟩ := by decide
  exact ⟨fun _ => hinit⟩

theorem pskSample_keepsNegotiation (i : Nat) (s : State) : KeepsNegotiation s (pskSample i s).2 :=
  (pskMod_keepsNegotiation s).trans
    (.trans (t := setOut i (pskMod s).1 (pskMod s).2) {} (pskDem_keepsNegotiation _ _))

theorem pskEvent_neg (ev : NegEvent) (s : State) : (pskEvent ev s).neg = s.neg := by
  cases ev <;> rfl

theorem pskTurn_keepsNegotiation (i : Nat) (s : State) : KeepsNegotiation s (pskTurn i s).2 := by
  unfold pskTurn
  split
  · exact {}
  · rename_i t ht
    obtain ⟨l, rfl⟩ := lineTimer_frame ht
    exact .trans (t := { s with sched := { s.sched with lt := l } }) {}
      ((pskSample_keepsNegotiation i _).trans (.of_eq (pskEvent_neg _ _)))

/-- Of the datapumps only PSK writes the negotiation registers (48_scheduler_host.md R295). -/
theorem dpProcess_keepsNegotiation (n : Nat) (s : State) : KeepsNegotiation s (dpProcess n s).2 := by
  unfold dpProcess
  split
  · exact .refl s
  · exact .of_eq (dialerProcess_keeps n s).neg
  · exact .of_eq (sampleLoop_rel _ _ KeepsDetector.refl (fun _ _ _ => KeepsDetector.trans) detectorTurn_keeps n 0 s).neg
  · exact .of_eq (sampleLoop_rel _ _ KeepsFsk.refl (fun _ _ _ => KeepsFsk.trans) fskTurn_keeps n 0 s).neg
  · exact sampleLoop_rel _ _ KeepsNegotiation.refl (fun _ _ _ => .trans) pskTurn_keepsNegotiation n 0 s

theorem create_keepsNegotiation {d : Datapump} {s t : State} (h : create (.dp d) s = some t) :
    KeepsNegotiation s t := by
  cases d with
  | none => cases h
  | dialer => cases h; exact {}
  | detector => cases h; exact {}
  | fsk => cases h; exact {}
  | psk => cases h; exact (pskInit_keepsNegotiation s.sched.dir s).trans {}

theorem applySwitch_keepsNegotiation (s : State) : KeepsNegotiation s (applySwitch s) := by
  rcases applySwitch_cases s with ⟨-, he⟩ | ⟨-, he⟩ | ⟨d, u, -, hc, he⟩ <;> rw [he]
  · exact {}
  · exact {}
  · exact (create_keepsNegotiation hc).trans {}

theorem process_keepsNegotiation (n : Nat) (s : State) : KeepsNegotiation s (process n s).after := by
  have hfill := (dpProcess_keepsNegotiation n s).trans
    (.of_eq (zeroFill_neg (n - (dpProcess n s).1) (dpProcess n s).1 _))
  unfold process
  dsimp only
  split
  · exact hfill.trans (applySwitch_keepsNegotiation _)
  · exact hfill

/-! ### What the commands and the step keep of the counters -/

theorem keepsNegotiation_ignoresAnswer : IgnoresAnswer KeepsNegotiation where
  refl := .refl
  resp _ _ _ h := h.trans {}
  error _ _ h := h.trans {}

/-- Where both branches of a check end in a property, the check does. -/
theorem endsIn_ite {P : State → Prop} {c : Prop} [Decidable c] {q r : Result} (hq : EndsIn P q) (hr : EndsIn P r) :
    EndsIn P (if c then q else r) := by
  split
  · exact hq
  · exact hr

theorem execTxch_keepsNegotiation (b : BitVec 16) (s : State) : EndsIn (KeepsNegotiation s) (execTxch b s) := by
  have hR := keepsNegotiation_ignoresAnswer
  unfold execTxch
  split
  · exact hR.done _ {}
  · exact hR.raise _ s

theorem execRxch_keepsNegotiation (s : State) : EndsIn (KeepsNegotiation s) (execRxch s) := by
  have hR := keepsNegotiation_ignoresAnswer
  unfold execRxch
  split
  · exact hR.done _ {}
  · exact hR.done _ {}

/-- Every command keeps the counters consistent: those of the PSK modem, of the calls and of the blocks may write them,
RESET initialises them, and no other command concerns them. -/
theorem exec_keepsNegotiation (i : Instr) (s : State) : EndsIn (KeepsNegotiation s) (exec i s) := by
  have hR := keepsNegotiation_ignoresAnswer
  have hreset : State.reset.neg.Counted := by decide
  cases i
  case reset => exact hR.done _ ⟨fun _ => hreset⟩
  case pski a => exact hR.direct (hR.done _ (pskInit_keepsNegotiation _ s))
  case pskm => exact hR.direct (hR.done _ (pskMod_keepsNegotiation s))
  case pskd b => exact hR.direct (hR.done _ (pskDem_keepsNegotiation _ s))
  case orig =>
    exact hR.direct (hR.done _ (.trans (t := request (.dp .dialer)
      { s with sched := { s.sched with dir := .originator, offhook := true } }) {} (applySwitch_keepsNegotiation _)))
  case answ =>
    exact hR.direct (hR.done _ (.trans (t := request (modemOf s.ctl.mode)
      { s with sched := { s.sched with dir := .answerer, offhook := true } }) {} (applySwitch_keepsNegotiation _)))
  case hup => exact hR.done _ (.trans (t := request (.dp .none) s) {} (applySwitch_keepsNegotiation _))
  case proc b => exact hR.inRange fun n _ => hR.done _ (process_keepsNegotiation n s)
  case step b => exact hR.done _ (.trans (t := setIn 0 b s) {} (process_keepsNegotiation 1 _))
  case dets b => exact hR.direct (hR.done _ (.of_eq (detStep_neg _ s)))
  case dts => exact hR.direct (hR.done _ (.of_eq (dtmfSample_neg s)))
  case fskm => exact hR.direct (hR.done _ (.of_eq (fskMod_keeps s).neg))
  case fskd b => exact hR.direct (hR.done _ (.of_eq (fskDem_keeps _ s).neg))
  case bqp a b => exact hR.direct (hR.inRange fun n _ => hR.done _ (.of_eq (bqRxPut_neg n b s)))
  case bqg a => exact hR.direct (hR.inRange fun n _ => hR.done _ (.of_eq (bqTxGet_neg n s)))
  case nop | rdst | rdev | wrin | rdout | detr | mape | mapd | ffst | ffcl => exact hR.done _ {}
  case wrs | rds | rdc => exact hR.inRange fun _ _ => hR.done _ {}
  case oscp | osci | osca | oscc | oscs | oscr => exact hR.withOsc fun _ => hR.done _ {}
  case deti | dett | fski | firt | firr | scri | scre | scrd | tims | bqi => exact hR.direct (hR.done _ {})
  case timi => exact hR.direct (hR.inRange fun _ _ => hR.done _ {})
  case dtk b =>
    refine hR.direct ?_
    split
    · exact hR.done _ {}
    · exact hR.raise _ s
  case wrc a b => exact endsIn_ite (hR.raise _ s) (hR.inRange fun _ _ => hR.done _ {})
  case dialc b => exact endsIn_ite (hR.raise _ s) (endsIn_ite (hR.raise _ s) (hR.done _ {}))
  case dialx => exact endsIn_ite (hR.raise _ s) (hR.done _ {})
  case txch b => exact execTxch_keepsNegotiation b s
  case rxch => exact execRxch_keepsNegotiation s

/-- Settles O10: what every procedure keeps of the counters, every step keeps. -/
theorem negotiationCountersStayConsistent : Obligations.NegotiationCountersStayConsistent := by
  unfold Obligations.NegotiationCountersStayConsistent
  have hreset : State.reset.neg.Counted := by decide
  exact fun s t hs ht => (step_endsIn keepsNegotiation_ignoresAnswer (fun _ _ _ => .trans) (fun _ _ => {})
    (fun _ _ => ⟨fun _ => hreset⟩) exec_keepsNegotiation s t ht).counted hs

/-! ### The RAW run (R244, R248) -/

/-- `n` guard symbols in a row from the initial counters. -/
def State.guarded (n : Nat) (s : State) : State := { s with neg := ⟨.raw, .raw, n, n, 0, 96, false, 0⟩ }

/-- The guard symbol is the expected one in RAW (R241). -/
theorem negPut_guarded (n : Nat) (s : State) : negPut 0 (s.guarded n) = (s.guarded n).counts true rawRule s.scr :=
  negPut_raw rfl (by simp)

theorem negPut_guarded_lt {n : Nat} (hn : n + 1 < 96) (s : State) :
    negPut 0 (s.guarded n) = (.none, s.guarded (n + 1)) :=
  (negPut_guarded n s).trans (State.counts_of_judge (.inl rfl) (negJudge_running _ hn))

theorem negPut_guarded_last (s : State) : negPut 0 (s.guarded 95) = (.scr, { s with
    neg := ⟨.scrambled, if s.psk.pdir = .originator then .scrambled else .raw, 0, 0, 0, 162, false, 0⟩ }) :=
  (negPut_guarded 95 s).trans (State.counts_of_judge (.inl rfl)
    ((negJudge_success _ (Nat.le_refl 96) (show 0 < 8 by omega)).trans (negSucceed_raw _ rfl)))

theorem iterate_negPut_guarded {s : State} (hs : s = s.guarded 0) {n : Nat} (hn : n < 96) :
    (fun u => (negPut 0 u).2)^[n] s = s.guarded n := by
  induction n with
  | zero => exact hs
  | succ n ih => rw [Function.iterate_succ_apply', ih (by omega), negPut_guarded_lt hn]

/-- No symbol lowers PH (R252). -/
theorem negPut_ph_le (sym : BitVec 2) (s : State) : s.neg.ph.id.toNat ≤ (negPut sym s).2.neg.ph.id.toNat := by
  cases hph : s.neg.ph with
  | raw => exact Nat.zero_le _
  | scrambled =>
    rw [negPut_scrambled hph (decide_eq_true_iff (p := (scrDecDibit sym s.scr).1 = 3))]
    obtain ⟨-, -, hnext⟩ := negCount_event (decide ((scrDecDibit sym s.scr).1 = 3)) scrRule s.psk.pdir s.neg (.inr hph)
    rw [hph] at hnext
    dsimp only [State.counts]
    rcases hnext with h | h | h | h <;> rw [h] <;> decide
  | data => rw [negPut_data sym hph, bqRxPut_neg, hph]
  | failed => rw [negPut_failed sym hph, hph]

/-- Settles O50: the guard symbols counted one by one, an unexpected one below and from the floor on, and PH. -/
theorem negotiationRawRun : Obligations.NegotiationRawRun := by
  unfold Obligations.NegotiationRawRun
  refine ⟨fun n s hneg hn => ?_, fun sym s hph hsym => ?_, fun sym s => negPut_failed sym, negPut_ph_le⟩
  · have hs : s = s.guarded 0 := by
      rw [State.guarded, ← hneg]
    refine ⟨iterate_negPut_guarded hs hn, ?_, ?_⟩
    · rw [iterate_negPut_guarded hs hn]
      rcases Nat.lt_or_ge (n + 1) 96 with hroom | hlast
      · rw [negPut_guarded_lt hroom]
        simp
        omega
      · obtain rfl : n = 95 := by omega
        rw [negPut_guarded_last]
        simp
    · rw [Function.iterate_succ_apply', iterate_negPut_guarded hs (by norm_num), negPut_guarded_last]
  · rw [negPut_raw hph (ok := false) ⟨nofun, fun h => absurd h hsym⟩]
    refine ⟨fun hfloor => ?_, fun hfloor hroom => ?_⟩
    · rw [State.counts, negCount_restarts _ rfl hfloor]
      rfl
    · rw [State.counts_of_judge (.inr hfloor) (negJudge_running _ hroom)]
      simp [negCounted, hph]

/-! ### `neg_put` in the terms of the commands (R242, R243) -/

/-- The scheduler's registers and the response, which the receive framer does not read. -/
def State.withHost (c : Sched) (r : Option Word) (s : State) : State := { s with sched := c, resp := r }

theorem rxDeliver_withHost (fr : BitVec 10) (c : Sched) (r : Option Word) (s : State) :
    rxDeliver fr (s.withHost c r) = (rxDeliver fr s).withHost c r := by
  have hframing : (if fr.getLsbD 0 then s.withHost c r else event .framing (s.withHost c r)) =
      (if fr.getLsbD 0 then s else event .framing s).withHost c r := by
    split <;> rfl
  unfold rxDeliver
  rw [hframing]
  generalize (if fr.getLsbD 0 then s else event .framing s) = t
  have hfifo : (t.withHost c r).rxfifo = t.rxfifo := rfl
  dsimp only
  rw [hfifo]
  cases t.rxfifo.push (rev8 (fr.extractLsb' 1 8)) <;> rfl

theorem rxBit_withHost (bit : Bool) (c : Sched) (r : Option Word) (s : State) :
    rxBit bit (s.withHost c r) = ((rxBit bit s).1, (rxBit bit s).2.withHost c r) := by
  have hbq : (s.withHost c r).bq = s.bq := rfl
  rw [rxBit, rxBit, hbq]
  cases rxAppend bit s.bq with
  | mk fr q =>
    cases fr with
    | none => rfl
    | some fr => exact congrArg (Prod.mk 1) (rxDeliver_withHost fr c r { s with bq := q })

theorem bqRxPut_withHost (n : Nat) (v : BitVec 16) (c : Sched) (r : Option Word) (s : State) :
    bqRxPut n v (s.withHost c r) = ((bqRxPut n v s).1, (bqRxPut n v s).2.withHost c r) := by
  induction n generalizing s with
  | zero => rfl
  | succ j ih => simp only [bqRxPut, rxBit_withHost, ih]

/-- In DATA the dibit goes to the receive framer, whatever the scheduler and the response are meanwhile. -/
theorem negPut_data_withHost (sym : BitVec 2) {s : State} (h : s.neg.ph = .data) (c : Sched) (r : Option Word) :
    negPut sym s = (.none, (bqRxPut 2 ((scrDecDibit sym s.scr).1.setWidth 16)
      ({ s with scr := (scrDecDibit sym s.scr).2 }.withHost c r)).2.withHost s.sched s.resp) := by
  obtain ⟨b, k, e, f, hput⟩ := bqRxPut_frame 2 ((scrDecDibit sym s.scr).1.setWidth 16)
    { s with scr := (scrDecDibit sym s.scr).2 }
  rw [negPut_data sym h, bqRxPut_withHost, hput]
  rfl

/-- BQP 2 in idle mode is the receive framer's dibit (47_framing_fifo.md R267). -/
theorem exec_bqp_two (v : BitVec 16) {s : State} (hidle : s.sched.dp = .none) : exec (.bqp 2 v) s = .next
    ((bqRxPut 2 v s).2.withHost (bqRxPut 2 v s).2.sched (some ((BitVec.ofNat 24 (bqRxPut 2 v s).1).setWidth 32))) :=
  (direct_idle s _ hidle).trans (done_eq_setWidth _ _)

/-- `s` with what the descrambler leaves of a bit: its registers, and the data bit as the answer (R229). -/
def State.descrambled (r : Bool) (s : State) : State :=
  { s with scr := (scrDec r s.scr).2, resp := some ((BitVec.ofBool (scrDec r s.scr).1).setWidth 32) }

/-- The two bits of a symbol as operands of SCRD (R243). -/
theorem symbol_bits (sym : BitVec 2) :
    ((sym >>> 1).setWidth 8).getLsbD 0 = sym.getLsbD 1 ∧ (sym.setWidth 8).getLsbD 0 = sym.getLsbD 0 := by
  revert sym
  decide

/-- The answers of the two SCRD commands are the descrambled dibit (R243). -/
theorem dibit_of_answers (d1 d0 : Bool) :
    ((BitVec.ofBool d1).setWidth 32 <<< 1 ||| (BitVec.ofBool d0).setWidth 32 : Word).setWidth 16 =
      (BitVec.ofBool d1 ++ BitVec.ofBool d0).setWidth 16 ∧
    (((BitVec.ofBool d1).setWidth 32 : Word) = 1 ∧ ((BitVec.ofBool d0).setWidth 32 : Word) = 1 ↔
      (BitVec.ofBool d1 ++ BitVec.ofBool d0 : BitVec 2) = 3) := by
  revert d1 d0
  decide

/-- Two SCRD commands, the more significant bit first, are the descrambler's dibit (R243). -/
theorem exec_scrd_dibit (sym : BitVec 2) (s : State) : ∃ (d1 d0 : State) (r1 r0 : Word),
    exec (.scrd ((sym >>> 1).setWidth 8)) s.parked = .next d1 ∧ d1.resp = some r1 ∧
    exec (.scrd (sym.setWidth 8)) d1 = .next d0 ∧ d0.resp = some r0 ∧
    d0 = { s with scr := (scrDecDibit sym s.scr).2 }.withHost s.parked.sched (some r0) ∧
    (r1 <<< 1 ||| r0).setWidth 16 = (scrDecDibit sym s.scr).1.setWidth 16 ∧
    (r1 = 1 ∧ r0 = 1 ↔ (scrDecDibit sym s.scr).1 = 3) := by
  have hfirst := exec_scrd ((sym >>> 1).setWidth 8) (s := s.parked) rfl
  have hsecond := exec_scrd (sym.setWidth 8) (s := s.parked.descrambled (sym.getLsbD 1)) rfl
  rw [(symbol_bits sym).1] at hfirst
  rw [(symbol_bits sym).2] at hsecond
  obtain ⟨hvalue, hones⟩ := dibit_of_answers (scrDec (sym.getLsbD 1) s.scr).1
    (scrDec (sym.getLsbD 0) (scrDec (sym.getLsbD 1) s.scr).2).1
  exact ⟨_, _, _, _, hfirst, rfl, hsecond, rfl, rfl, hvalue, hones⟩

/-- Settles O51: each symbol is dropped, pushed, or counted, and a counted one is judged branch by branch. -/
theorem negotiationRetriesOnceThenFails : Obligations.NegotiationRetriesOnceThenFails := by
  unfold Obligations.NegotiationRetriesOnceThenFails
  intro sym s
  obtain ⟨d1, d0, r1, r0, hexec1, hresp1, hexec0, hresp0, hd0, hvalue, hones⟩ := exec_scrd_dibit sym s
  refine ⟨d1, d0, r1, r0, hexec1, hresp1, hexec0, hresp0, fun hph => ?_, fun hph => negPut_failed sym hph,
    fun ok len c hcase => ?_⟩
  · refine ⟨_, exec_bqp_two _ (by rw [hd0]; rfl), ?_⟩
    rw [hvalue, hd0]
    exact negPut_data_withHost sym hph _ _
  · have hput : negPut sym s = s.counts ok ⟨len, 16, 8⟩ c := by
      rcases hcase with ⟨hph, rfl, rfl, hok⟩ | ⟨hph, rfl, rfl, hok⟩
      · exact negPut_raw hph hok
      · rw [hd0]
        exact negPut_scrambled hph (hok.trans hones)
    have hraw (hph : s.neg.ph = .raw) : c = s.scr := by
      rcases hcase with ⟨-, -, hc, -⟩ | ⟨hscr, -⟩
      · exact hc
      · simp [hph] at hscr
    rw [hput]
    refine ⟨fun hok hfloor => ?_, fun hok => ⟨negCounted ok s.psk.pdir s.neg, _, _, rfl, rfl, rfl, fun hroom => ?_,
      fun hspent herr hph => ?_, fun hspent herr hph => ?_, fun hspent herr hretry => ?_,
      fun hspent herr hretry => ?_⟩⟩
    · rw [State.counts, negCount_restarts _ hok hfloor]
      rfl
    · exact State.counts_of_judge hok (negJudge_running _ hroom)
    · have htxm : (negCounted ok s.psk.pdir s.neg).txm = s.neg.txm := by simp [negCounted, hph]
      rw [← hraw hph, ← htxm]
      exact State.counts_of_judge hok ((negJudge_success _ hspent herr).trans (negSucceed_raw _ hph))
    · exact State.counts_of_judge hok ((negJudge_success _ hspent herr).trans (negSucceed_scrambled _ hph))
    · exact State.counts_of_judge hok (negJudge_retry _ hspent herr hretry)
    · exact State.counts_of_judge hok (negJudge_failure _ hspent herr hretry)

end Sys2Proof.Machine
end

section
/-! Fifos.lean: the bytes a ring holds under a push and a pop (20_memory.md R63), and the four FIFO commands
(47_framing_fifo.md R269 to R272). -/

namespace Sys2Proof.Machine

/-! ### The bytes a ring holds (R63) -/

/-- The ring after a push that finds room. -/
def Fifo.pushed (f : Fifo) (b : Byte) : Fifo :=
  { f with cells := f.cells.write f.head.toNat b, head := f.head + 1 }

/-- The ring after a pop that finds a byte. -/
def Fifo.popped (f : Fifo) : Fifo := { f with tail := f.tail + 1 }

theorem Fifo.length_contents (f : Fifo) : f.contents.length = f.count.toNat := by
  simp [Fifo.contents, Fifo.count]

theorem Fifo.contents_eq_nil_iff (f : Fifo) : f.contents = [] ↔ f.head = f.tail := by
  rw [← List.length_eq_zero_iff, Fifo.length_contents, Fifo.count]
  constructor <;> intro h <;> bv_omega

theorem Fifo.length_contents_eq_255_iff (f : Fifo) : f.contents.length = 255 ↔ f.head + 1 = f.tail := by
  rw [Fifo.full_iff_count, Fifo.length_contents, ← BitVec.toNat_inj]
  rfl

/-- The oldest byte is the one at TAIL. -/
theorem Fifo.contents_eq_cons {f : Fifo} (h : f.head ≠ f.tail) :
    f.contents = f.cells.read f.tail.toNat :: f.popped.contents := by
  obtain ⟨n, hn⟩ : ∃ n, (f.head - f.tail).toNat = n + 1 := Nat.exists_eq_succ_of_ne_zero (by bv_omega)
  have hpopped : (f.head - (f.tail + 1)).toNat = n := by bv_omega
  have hindex (k : Nat) : f.tail + BitVec.ofNat 8 (k + 1) = f.tail + 1 + BitVec.ofNat 8 k := by bv_omega
  simp only [Fifo.contents, Fifo.popped, hn, hpopped, List.range_succ_eq_map, List.map_cons, List.map_map,
    Function.comp_def, Nat.succ_eq_add_one, hindex]
  simp

/-- A pushed byte is the newest. -/
theorem Fifo.contents_pushed {f : Fifo} (b : Byte) (hwf : f.cells.wf 256 = true) (hroom : f.head + 1 ≠ f.tail) :
    (f.pushed b).contents = f.contents ++ [b] := by
  have hcount : (f.head + 1 - f.tail).toNat = (f.head - f.tail).toNat + 1 := by bv_omega
  have hnew : f.tail + BitVec.ofNat 8 (f.head - f.tail).toNat = f.head := by bv_omega
  have hold (k : Nat) (hk : k ∈ List.range (f.head - f.tail).toNat) :
      (f.tail + BitVec.ofNat 8 k).toNat ≠ f.head.toNat := by
    rw [List.mem_range] at hk
    bv_omega
  simp only [Fifo.contents, Fifo.pushed, hcount, List.range_succ, List.map_append, List.map_cons, List.map_nil, hnew,
    Memory.read_write _ hwf, if_true]
  congr 1
  exact List.map_congr_left fun k hk => if_neg (hold k hk)

theorem Fifo.push_of_room {f : Fifo} (b : Byte) (h : f.contents.length ≠ 255) : f.push b = some (f.pushed b) :=
  if_neg (f.length_contents_eq_255_iff.not.1 h)

theorem Fifo.push_of_full {f : Fifo} (b : Byte) (h : f.contents.length = 255) : f.push b = none :=
  if_pos (f.length_contents_eq_255_iff.1 h)

theorem Fifo.pop_of_contents_nil {f : Fifo} (h : f.contents = []) : f.pop = none :=
  if_pos (f.contents_eq_nil_iff.1 h)

theorem Fifo.pop_of_contents_cons {f : Fifo} {c : Byte} {rest : List Byte} (h : f.contents = c :: rest) :
    f.pop = some (c, f.popped) ∧ f.popped.contents = rest := by
  have hne : f.head ≠ f.tail := by
    rw [Ne, ← f.contents_eq_nil_iff, h]
    exact List.cons_ne_nil c rest
  rw [Fifo.contents_eq_cons hne, List.cons.injEq] at h
  obtain ⟨rfl, hrest⟩ := h
  exact ⟨if_neg hne, hrest⟩

/-! ### The commands (R269 to R272) -/

/-- RXCH's value of a byte: the valid bit over the byte (R270). -/
theorem rxch_value (c : Byte) : (0#15 ++ 1#1 ++ c : Value).setWidth 32 = (0x100 ||| c.setWidth 32 : Word) := by
  revert c
  decide

/-- FFST's value of two counts (R271). -/
theorem ffst_value (tx rx : BitVec 8) :
    (0#8 ++ tx ++ rx : Value).setWidth 32 = BitVec.ofNat 32 (rx.toNat + 256 * tx.toNat) := by
  have hconcat : tx.toNat <<< 8 ||| rx.toNat = 256 * tx.toNat + rx.toNat := by
    rw [← Nat.shiftLeft_add_eq_or_of_lt rx.isLt, Nat.shiftLeft_eq, Nat.mul_comm]
  have hvalue : (0#8 ++ tx ++ rx).toNat = 256 * tx.toNat + rx.toNat := by
    rw [BitVec.toNat_append, BitVec.toNat_append, BitVec.toNat_ofNat, Nat.zero_mod, Nat.zero_shiftLeft, Nat.zero_or,
      hconcat]
  apply BitVec.eq_of_toNat_eq
  rw [BitVec.toNat_setWidth, BitVec.toNat_ofNat, Nat.add_comm rx.toNat]
  exact congrArg (· % 2 ^ 32) hvalue

/-- Settles O55: each command in the terms of the bytes its ring holds. -/
theorem fifoCommands : Obligations.FifoCommands := by
  unfold Obligations.FifoCommands
  rintro b s ⟨-, -, htx, -, -, -⟩
  refine ⟨fun hfull => ?_, fun hroom => ?_, fun hnone => ?_, fun c rest hsome => ?_, ?_, rfl⟩
  · show execTxch b s = _
    rw [execTxch, Fifo.push_of_full _ hfull]
    exact raise_eq_errorAnswer .full s
  · refine ⟨{ s with txfifo := s.txfifo.pushed (b.setWidth 8), resp := some 0 }, ?_, rfl, ?_, ?_, fun j hj => ?_⟩
    · show execTxch b s = _
      rw [execTxch, bLow8, Fifo.push_of_room _ hroom]
      rfl
    · exact Fifo.contents_pushed _ htx (s.txfifo.length_contents_eq_255_iff.not.1 hroom)
    · exact Memory.read_write_same _ htx _ _
    · exact Memory.read_write_other _ _ _ _ hj
  · show execRxch s = _
    rw [execRxch, Fifo.pop_of_contents_nil hnone]
    rfl
  · obtain ⟨hpop, hrest⟩ := Fifo.pop_of_contents_cons hsome
    refine ⟨{ s with rxfifo := s.rxfifo.popped, resp := some (0x100 ||| c.setWidth 32) }, ?_, rfl, hrest⟩
    show execRxch s = _
    rw [execRxch, hpop, ← rxch_value]
    exact done_eq_setWidth _ _
  · show done _ s = _
    rw [done_eq_setWidth, ffst_value, Fifo.length_contents, Fifo.length_contents]

end Sys2Proof.Machine
end

section
/-! ReceiveFramer.lean: the receive framer bit by bit, and BQP (47_framing_fifo.md R263, R267). -/

namespace Sys2Proof.Machine

/-! ### Bit buffers (R15, R263) -/

theorem getLsbD_lowMask (k i : Nat) : (lowMask k).getLsbD i = (decide (i < 32) && decide (i < k)) := by
  rw [lowMask, BitVec.getLsbD_ofNat, Nat.testBit_two_pow_sub_one]

/-- A buffer of `k` bits has none from bit `k` on. -/
theorem getLsbD_of_lt_two_pow {b : BitVec 32} {k i : Nat} (h : b.toNat < 2 ^ k) (hi : k ≤ i) : b.getLsbD i = false :=
  Nat.testBit_lt_two_pow (h.trans_le (Nat.pow_le_pow_right Nat.two_pos hi))

theorem and_lowMask_of_lt {b : BitVec 32} {k : Nat} (h : b.toNat < 2 ^ k) : b &&& lowMask k = b := by
  apply BitVec.eq_of_getLsbD_eq
  intro i hi
  rw [BitVec.getLsbD_and, getLsbD_lowMask]
  rcases Nat.lt_or_ge i k with hik | hik
  · simp [hi, hik]
  · simp [getLsbD_of_lt_two_pow h hik]

/-- A bit buffer after one more bit: its bits one place up and the new one below them (R263). -/
def appendBit (bit : Bool) (b : BitVec 32) : BitVec 32 := b <<< 1 ||| (BitVec.ofBool bit).setWidth 32

theorem getLsbD_appendBit_zero (bit : Bool) (b : BitVec 32) : (appendBit bit b).getLsbD 0 = bit := by
  simp [appendBit]

theorem getLsbD_appendBit_succ (bit : Bool) (b : BitVec 32) {i : Nat} (hi : i + 1 < 32) :
    (appendBit bit b).getLsbD (i + 1) = b.getLsbD i := by
  rw [appendBit, BitVec.getLsbD_or, BitVec.getLsbD_shiftLeft, BitVec.getLsbD_setWidth, BitVec.getLsbD_ofBool]
  simp [hi]

theorem appendBit_lt (bit : Bool) {b : BitVec 32} {k : Nat} (h : b.toNat < 2 ^ k) :
    (appendBit bit b).toNat < 2 ^ (k + 1) := by
  refine Nat.lt_pow_two_of_testBit _ fun i hi => ?_
  obtain ⟨j, rfl⟩ : ∃ j, i = j + 1 := ⟨i - 1, by omega⟩
  rw [BitVec.testBit_toNat]
  rcases Nat.lt_or_ge (j + 1) 32 with hj | hj
  · rw [getLsbD_appendBit_succ _ _ hj, getLsbD_of_lt_two_pow h (Nat.le_of_succ_le_succ hi)]
  · exact BitVec.getLsbD_of_ge _ _ hj

/-! ### Appending a bit (R263) -/

theorem dropMark_le (b : BitVec 32) (c : Nat) : dropMark b c ≤ c := by
  induction c with
  | zero => exact le_rfl
  | succ c ih =>
    rw [dropMark]
    split
    · exact ih.trans c.le_succ
    · exact le_rfl

theorem dropMark_of_start {b : BitVec 32} {c : Nat} (h : b.getLsbD c = false) : dropMark b (c + 1) = c + 1 := by
  simp [dropMark, h]

/-- With a start bit at the head no bit is dropped: one more is held. -/
theorem dropMark_appendBit {bit : Bool} {q : BitQ} (h : q.RxInRange) (hstart : q.rxc = 0 → bit = false) :
    dropMark (appendBit bit q.rxb) (q.rxc + 1) = q.rxc + 1 := by
  obtain ⟨hle, -, hhead⟩ := h
  refine dropMark_of_start ?_
  rcases Nat.eq_zero_or_pos q.rxc with hc | hc
  · rw [hc, getLsbD_appendBit_zero, hstart hc]
  · obtain ⟨k, hk⟩ := Nat.exists_eq_succ_of_ne_zero hc.ne'
    rw [hk, Nat.succ_eq_add_one, getLsbD_appendBit_succ _ _ (by omega), ← hhead hc, hk, Nat.succ_sub_one]

/-- Mark with nothing held is dropped. -/
theorem rxAppend_mark {q : BitQ} (hc : q.rxc = 0) (hb : q.rxb = 0) : rxAppend true q = (none, q) := by
  have hdrop : dropMark (appendBit true q.rxb) (q.rxc + 1) = 0 := by
    rw [hc, hb]
    rfl
  have hmask : appendBit true q.rxb &&& lowMask 0 = q.rxb := by simp [lowMask, hb]
  rw [rxAppend, ← appendBit]
  simp only [hdrop, hmask]
  exact congrArg (fun c => (none, { q with rxc := c })) hc.symm

theorem rxAppend_hold {bit : Bool} {q : BitQ} (h : q.RxInRange) (hroom : q.rxc < 9)
    (hstart : q.rxc = 0 → bit = false) :
    rxAppend bit q = (none, { q with rxb := appendBit bit q.rxb, rxc := q.rxc + 1 }) := by
  have hdrop := dropMark_appendBit h hstart
  have hmask := and_lowMask_of_lt (appendBit_lt bit h.2.1)
  rw [rxAppend, ← appendBit]
  simp only [hdrop, hmask, Param.frameBits]
  exact if_neg (by omega)

/-- The tenth bit completes the frame. -/
theorem rxAppend_complete (bit : Bool) {q : BitQ} (h : q.RxInRange) (hc : q.rxc = 9) :
    rxAppend bit q = (some ((appendBit bit q.rxb).setWidth 10), { q with rxb := 0, rxc := 0 }) := by
  have hdrop := dropMark_appendBit (bit := bit) h (by simp [hc])
  have hmask : appendBit bit q.rxb &&& lowMask 0 = 0 := by simp [lowMask]
  rw [rxAppend, ← appendBit]
  simp only [hdrop, hmask, Param.frameBits]
  exact if_pos (by omega)

/-- A frame takes its ten bits off the bits held and received. -/
theorem rxAppend_count (bit : Bool) (q : BitQ) :
    ((rxAppend bit q).1.isSome → 9 ≤ q.rxc ∧ (rxAppend bit q).2.rxc = 0) ∧ (rxAppend bit q).2.rxc ≤ q.rxc + 1 := by
  have hdrop := dropMark_le (appendBit bit q.rxb) (q.rxc + 1)
  rw [rxAppend, ← appendBit]
  split
  · rename_i hten
    rw [Param.frameBits] at hten
    exact ⟨fun _ => ⟨by omega, rfl⟩, Nat.zero_le _⟩
  · exact ⟨nofun, hdrop⟩

/-! ### Delivering a frame (R263) -/

theorem rxDeliver_of_room (fr : BitVec 10) {s : State} (hroom : s.rxfifo.contents.length ≠ 255) :
    rxDeliver fr s = { s with
      rxfifo := s.rxfifo.pushed (rev8 (fr.extractLsb' 1 8))
      evt := if fr.getLsbD 0 then s.evt else s.evt ||| 0x8 } := by
  cases hstop : fr.getLsbD 0 <;>
    simp only [rxDeliver, hstop, Bool.false_eq_true, if_true, if_false, event_rxfifo, Fifo.push_of_room _ hroom]
  rfl

theorem rxDeliver_of_full (fr : BitVec 10) {s : State} (hfull : s.rxfifo.contents.length = 255) :
    rxDeliver fr s = { s with evt := if fr.getLsbD 0 then s.evt ||| 0x10 else s.evt ||| 0x18 } := by
  have hboth : s.evt ||| 0x18 = s.evt ||| 0x8 ||| 0x10 := by
    rw [BitVec.or_assoc]
    rfl
  cases hstop : fr.getLsbD 0 <;>
    (simp only [rxDeliver, hstop, Bool.false_eq_true, if_true, if_false, event_rxfifo, Fifo.push_of_full _ hfull,
      hboth]; rfl)

/-- The stop bit and the byte of ten bits held: the newest bit, and the eight before it in reverse order (R262). -/
theorem appendBit_frame (bit : Bool) (b : BitVec 32) :
    ((appendBit bit b).setWidth 10).getLsbD 0 = bit ∧
    ((appendBit bit b).setWidth 10).extractLsb' 1 8 = b.setWidth 8 := by
  refine ⟨?_, ?_⟩
  · rw [BitVec.getLsbD_setWidth, getLsbD_appendBit_zero]
    rfl
  · apply BitVec.eq_of_getLsbD_eq
    intro i hi
    rw [BitVec.getLsbD_extractLsb', BitVec.getLsbD_setWidth, BitVec.getLsbD_setWidth, Nat.add_comm 1 i,
      getLsbD_appendBit_succ _ _ (by omega)]
    simp [hi, show i + 1 < 10 by omega]

/-! ### One bit (R263) -/

theorem rxBit_mark {s : State} (hc : s.bq.rxc = 0) (hb : s.bq.rxb = 0) : rxBit true s = (0, s) := by
  rw [rxBit, rxAppend_mark hc hb]

theorem rxBit_hold {bit : Bool} {s : State} (h : s.bq.RxInRange) (hroom : s.bq.rxc < 9)
    (hstart : s.bq.rxc = 0 → bit = false) :
    rxBit bit s = (0, { s with bq := { s.bq with rxb := appendBit bit s.bq.rxb, rxc := s.bq.rxc + 1 } }) := by
  rw [rxBit, rxAppend_hold h hroom hstart]

/-- A start bit with nothing held is held: the buffer is 0 as before. -/
theorem rxBit_start {s : State} (hc : s.bq.rxc = 0) (hb : s.bq.rxb = 0) :
    rxBit false s = (0, { s with bq := { s.bq with rxc := 1 } }) := by
  have hrange : s.bq.RxInRange := ⟨by omega, by simp [hb, hc], by omega⟩
  have happend : appendBit false s.bq.rxb = s.bq.rxb := by
    rw [hb]
    rfl
  rw [rxBit_hold hrange (by omega) fun _ => rfl, happend, hc]

theorem rxBit_complete_of_room (bit : Bool) {s : State} (h : s.bq.RxInRange) (hc : s.bq.rxc = 9)
    (hroom : s.rxfifo.contents.length ≠ 255) : rxBit bit s = (1, { s with
      bq := { s.bq with rxb := 0, rxc := 0 }
      rxfifo := s.rxfifo.pushed (rev8 (s.bq.rxb.setWidth 8))
      evt := if bit then s.evt else s.evt ||| 0x8 }) := by
  obtain ⟨hstop, hbyte⟩ := appendBit_frame bit s.bq.rxb
  simp only [rxBit, rxAppend_complete bit h hc]
  rw [rxDeliver_of_room (s := { s with bq := { s.bq with rxb := 0, rxc := 0 } }) _ hroom, hstop, hbyte]

theorem rxBit_complete_of_full (bit : Bool) {s : State} (h : s.bq.RxInRange) (hc : s.bq.rxc = 9)
    (hfull : s.rxfifo.contents.length = 255) : rxBit bit s = (1, { s with
      bq := { s.bq with rxb := 0, rxc := 0 }
      evt := if bit then s.evt ||| 0x10 else s.evt ||| 0x18 }) := by
  obtain ⟨hstop, -⟩ := appendBit_frame bit s.bq.rxb
  simp only [rxBit, rxAppend_complete bit h hc]
  rw [rxDeliver_of_full (s := { s with bq := { s.bq with rxb := 0, rxc := 0 } }) _ hfull, hstop]

/-! ### What the bits of a group add up to (R263) -/

/-- From `s` to `t` the receive framer adds only the events FRAMING and RXOVF and leaves RXTAIL (R263). -/
def OnlyReceives (s t : State) : Prop :=
  (∃ m : BitVec 11, t.evt = s.evt ||| (m &&& 0x18)) ∧ t.rxfifo.tail = s.rxfifo.tail

theorem OnlyReceives.refl (s : State) : OnlyReceives s s := ⟨⟨0, by simp⟩, rfl⟩

theorem OnlyReceives.trans {s t u : State} (h : OnlyReceives s t) (k : OnlyReceives t u) : OnlyReceives s u := by
  obtain ⟨⟨m, hm⟩, htail⟩ := h
  obtain ⟨⟨l, hl⟩, htail'⟩ := k
  refine ⟨⟨m ||| l, ?_⟩, htail'.trans htail⟩
  rw [hl, hm, BitVec.or_assoc]
  congr 1
  ext i
  simp [Bool.and_or_distrib_right]

theorem rxDeliver_onlyReceives (fr : BitVec 10) (s : State) : OnlyReceives s (rxDeliver fr s) := by
  by_cases hfull : s.rxfifo.contents.length = 255
  · rw [rxDeliver_of_full fr hfull]
    cases fr.getLsbD 0
    · exact ⟨⟨0x18, rfl⟩, rfl⟩
    · exact ⟨⟨0x10, rfl⟩, rfl⟩
  · rw [rxDeliver_of_room fr hfull]
    cases fr.getLsbD 0
    · exact ⟨⟨0x8, rfl⟩, rfl⟩
    · exact ⟨⟨0, by simp⟩, rfl⟩

theorem rxBit_onlyReceives (bit : Bool) (s : State) : OnlyReceives s (rxBit bit s).2 := by
  unfold rxBit
  split
  · exact rxDeliver_onlyReceives _ { s with bq := _ }
  · exact .refl s

theorem bqRxPut_onlyReceives (n : Nat) (v : BitVec 16) (s : State) : OnlyReceives s (bqRxPut n v s).2 := by
  induction n generalizing s with
  | zero => exact .refl s
  | succ j ih => exact (rxBit_onlyReceives _ s).trans (ih _)

/-- Each byte delivered takes ten bits off those held and received. -/
theorem rxBit_count (bit : Bool) (s : State) :
    (rxBit bit s).1 ≤ 1 ∧ 10 * (rxBit bit s).1 + (rxBit bit s).2.bq.rxc ≤ s.bq.rxc + 1 := by
  obtain ⟨hframe, hle⟩ := rxAppend_count bit s.bq
  cases h : rxAppend bit s.bq with
  | mk fr q =>
    rw [h] at hframe hle
    cases fr with
    | none => simpa [rxBit, h] using hle
    | some fr =>
      obtain ⟨hnine, hzero⟩ := hframe rfl
      obtain ⟨e, f, hdeliver⟩ := rxDeliver_frame fr { s with bq := q }
      dsimp only at hzero
      simp only [rxBit, h, hdeliver]
      omega

theorem bqRxPut_count (n : Nat) (v : BitVec 16) (s : State) :
    (bqRxPut n v s).1 ≤ n ∧ 10 * (bqRxPut n v s).1 + (bqRxPut n v s).2.bq.rxc ≤ s.bq.rxc + n := by
  induction n generalizing s with
  | zero => exact ⟨le_rfl, (Nat.zero_add _).le⟩
  | succ j ih =>
    obtain ⟨hone, hbit⟩ := rxBit_count (v.getLsbD j) s
    obtain ⟨hj, hrest⟩ := ih (rxBit (v.getLsbD j) s).2
    simp only [bqRxPut]
    omega

/-! ### BQP (R267) -/

theorem bqRxPut_sched (n : Nat) (v : BitVec 16) (s : State) : (bqRxPut n v s).2.sched = s.sched := by
  obtain ⟨b, c, e, f, h⟩ := bqRxPut_frame n v s
  rw [h]

theorem bqRxPut_one (v : BitVec 16) (s : State) : bqRxPut 1 v s = rxBit (v.getLsbD 0) s := rfl

/-- `s` with another response. -/
def State.withResp (r : Option Word) (s : State) : State := { s with resp := r }

/-- The receive framer does not read the response. -/
theorem bqRxPut_withResp (n : Nat) (v : BitVec 16) (r : Option Word) (s : State) :
    bqRxPut n v (s.withResp r) = ((bqRxPut n v s).1, (bqRxPut n v s).2.withResp r) := by
  refine (bqRxPut_withHost n v s.sched r s).trans ?_
  rw [State.withHost, ← bqRxPut_sched n v s]
  rfl

theorem exec_bqp {a : BitVec 8} (v : BitVec 16) {s : State} (hidle : s.sched.dp = .none) (hlo : 1 ≤ a.toNat)
    (hhi : a.toNat ≤ 16) : exec (.bqp a v) s =
      .next ((bqRxPut a.toNat v s).2.withResp (some (BitVec.ofNat 32 (bqRxPut a.toNat v s).1))) := by
  have hcount : (bqRxPut a.toNat v s).1 < 2 ^ 24 := by
    have hle := (bqRxPut_count a.toNat v s).1
    omega
  have hvalue : (BitVec.ofNat 24 (bqRxPut a.toNat v s).1).setWidth 32 = BitVec.ofNat 32 (bqRxPut a.toNat v s).1 := by
    apply BitVec.eq_of_toNat_eq
    rw [BitVec.toNat_setWidth, BitVec.toNat_ofNat, BitVec.toNat_ofNat, Nat.mod_eq_of_lt hcount]
  show execBqp a v s = _
  rw [execBqp, direct_idle _ _ hidle, bitCountOperand_val a ⟨hlo, hhi⟩, inRange_some]
  dsimp only
  rw [done_eq_setWidth, hvalue]
  rfl

theorem exec_bqp_one (v : BitVec 16) {s : State} (hidle : s.sched.dp = .none) :
    exec (.bqp 1 v) s = .next ((rxBit (v.getLsbD 0) s).2.withResp
      (some (BitVec.ofNat 32 (rxBit (v.getLsbD 0) s).1))) :=
  exec_bqp (a := 1) v hidle (by decide) (by decide)

/-- The one-bit pushes of the bits `v[n-1]` down to `v[0]` (R267). -/
def bitPushes (n : Nat) (v : BitVec 16) : List Instr :=
  (List.range n).map fun k => Instr.bqp 1 (v >>> (n - 1 - k))

theorem bitPushes_succ (n : Nat) (v : BitVec 16) : bitPushes (n + 1) v = .bqp 1 (v >>> n) :: bitPushes n v := by
  rw [bitPushes, List.range_succ_eq_map, List.map_cons, List.map_map]
  refine congrArg (Instr.bqp 1 (v >>> n) :: ·) (List.map_congr_left fun k _ => ?_)
  have hshift : n + 1 - 1 - (k + 1) = n - 1 - k := by omega
  exact congrArg (fun j => Instr.bqp 1 (v >>> j)) hshift

/-- A group of bits pushed one by one: the same state but for the response, and the same sum of answers (R267). -/
theorem bitPushes_run (n : Nat) (v : BitVec 16) {s : State} (hidle : s.sched.dp = .none) :
    ∃ u, execAll (bitPushes n v) s = some u ∧ u = (bqRxPut n v s).2.withResp u.resp ∧
      (answers (bitPushes n v) s).sum = BitVec.ofNat 32 (bqRxPut n v s).1 := by
  induction n generalizing s with
  | zero => exact ⟨s, rfl, rfl, rfl⟩
  | succ n ih =>
    have hfirst := exec_bqp_one (v >>> n) hidle
    have hbit : (v >>> n).getLsbD 0 = v.getLsbD n := by simp
    rw [hbit] at hfirst
    have hsched : (rxBit (v.getLsbD n) s).2.sched = s.sched := by
      rw [← hbit]
      exact bqRxPut_sched 1 (v >>> n) s
    obtain ⟨u, hrun, hu, hsum⟩ := ih (s := (rxBit (v.getLsbD n) s).2.withResp
      (some (BitVec.ofNat 32 (rxBit (v.getLsbD n) s).1))) ((congrArg Sched.dp hsched).trans hidle)
    rw [bqRxPut_withResp] at hu hsum
    rw [bitPushes_succ, execAll_cons hfirst, answers_cons hfirst, List.sum_cons, hsum]
    exact ⟨u, hrun, hu, (BitVec.ofNat_add ..).symm⟩

/-- Settles O57: the four cases of a bit, then the group as its bits. -/
theorem receiveFramerBitByBit : Obligations.ReceiveFramerBitByBit := by
  unfold Obligations.ReceiveFramerBitByBit
  refine ⟨fun b s hidle hmem hlt hhead => ?_, fun n v s hidle hlo hhi => ?_⟩
  · have hexec := exec_bqp_one b hidle
    have hempty (hc : s.bq.rxc = 0) : s.bq.rxb = 0 := by
      rw [hc] at hlt
      exact BitVec.eq_of_toNat_eq (Nat.lt_one_iff.1 hlt)
    obtain ⟨-, hrx, -⟩ := hmem
    refine ⟨fun hc hbit => ?_, fun hc hbit => ?_, fun hpos hroom => ?_, fun hc => ?_⟩
    · rw [hexec, hbit, rxBit_mark hc (hempty hc)]
      rfl
    · rw [hexec, hbit, rxBit_start hc (hempty hc)]
      rfl
    · rw [hexec, rxBit_hold ⟨by omega, hlt, hhead⟩ hroom fun hzero => absurd hzero hpos.ne']
      rfl
    · have hrange : s.bq.RxInRange := ⟨hc.le, hlt, hhead⟩
      refine ⟨_, _, rfl, hexec, fun hroom => ?_, fun hfull => ?_⟩
      · rw [rxBit_complete_of_room _ hrange hc hroom]
        exact ⟨rfl, Fifo.contents_pushed _ hrx (s.rxfifo.length_contents_eq_255_iff.not.1 hroom),
          fun j hj => Memory.read_write_other _ _ _ _ hj⟩
      · rw [rxBit_complete_of_full _ hrange hc hfull]
        rfl
  · have hn : (BitVec.ofNat 8 n).toNat = n := Nat.mod_eq_of_lt (by omega)
    have hexec := exec_bqp (a := BitVec.ofNat 8 n) v hidle (by omega) (by omega)
    rw [hn] at hexec
    obtain ⟨u, hrun, hu, hsum⟩ := bitPushes_run n v hidle
    exact ⟨_, u, hexec, hrun, hu, congrArg some hsum.symm⟩

end Sys2Proof.Machine
end

section
/-! TransmitFramer.lean: the transmit framer (47_framing_fifo.md R264): a group of bits is its bits one after the other.
Then BQG and the checks of the three bit queue commands (R266 to R268). -/

namespace Sys2Proof.Machine

/-! ### The low bits of a buffer (R15) -/

theorem lowMask_lt (k : Nat) : (lowMask k).toNat < 2 ^ k := by
  rw [← BitVec.and_self (x := lowMask k)]
  exact and_lowMask_lt _ k

/-- Taking low bits before or after others are appended. -/
theorem shiftLeft_or_and_lowMask (b : BitVec 32) {x : BitVec 32} {k : Nat} (c : Nat) (hx : x.toNat < 2 ^ k) :
    (b <<< k ||| x) &&& lowMask (c + k) = (b &&& lowMask c) <<< k ||| x := by
  apply BitVec.eq_of_getLsbD_eq
  intro i hi
  simp only [BitVec.getLsbD_and, BitVec.getLsbD_or, BitVec.getLsbD_shiftLeft, getLsbD_lowMask]
  rcases Nat.lt_or_ge i k with hik | hik
  · simp [hi, hik, show i < c + k by omega]
  · have hsub : i < c + k ↔ i - k < c := by omega
    rw [getLsbD_of_lt_two_pow hx hik, Bool.or_false, Bool.or_false]
    simp [hi, hsub, show i - k < 32 by omega, Nat.not_lt.2 hik]

theorem getLsbD_and_lowMask (b : BitVec 32) {k i : Nat} (h : i < k) : (b &&& lowMask k).getLsbD i = b.getLsbD i := by
  rw [BitVec.getLsbD_and, getLsbD_lowMask, decide_eq_true h, Bool.and_true]
  rcases Nat.lt_or_ge i 32 with hi | hi
  · rw [decide_eq_true hi, Bool.and_true]
  · rw [BitVec.getLsbD_of_ge b i hi, Bool.false_and]

theorem and_lowMask_and_lowMask (b : BitVec 32) {k c : Nat} (h : k ≤ c) :
    b &&& lowMask c &&& lowMask k = b &&& lowMask k := by
  apply BitVec.eq_of_getLsbD_eq
  intro i hi
  simp only [BitVec.getLsbD_and, getLsbD_lowMask]
  by_cases hik : i < k
  · simp [hi, hik, hik.trans_le h]
  · simp [hik]

theorem and_lowMask_eq_mod (b : BitVec 32) {k : Nat} (hk : k ≤ 32) :
    b &&& lowMask k = BitVec.ofNat 32 (b.toNat % 2 ^ k) := by
  have hmask : (lowMask k).toNat = 2 ^ k - 1 := by
    have hle : 2 ^ k ≤ 2 ^ 32 := Nat.pow_le_pow_right Nat.two_pos hk
    have hpos := Nat.two_pow_pos k
    rw [lowMask, BitVec.toNat_ofNat, Nat.mod_eq_of_lt (by omega)]
  have hlt : b.toNat % 2 ^ k < 2 ^ 32 := (Nat.mod_le _ _).trans_lt b.isLt
  apply BitVec.eq_of_toNat_eq
  rw [BitVec.toNat_and, hmask, Nat.and_two_pow_sub_one_eq_mod, BitVec.toNat_ofNat, Nat.mod_eq_of_lt hlt]

/-! ### Bits queued and bits taken (R264) -/

/-- `s` with `k` bits appended to TXB, the values in the low bits of `x`, and with TXFIFO `f`. -/
def State.queuing (k : Nat) (x : BitVec 32) (f : Fifo) (s : State) : State :=
  { s with bq := { s.bq with txb := s.bq.txb <<< k ||| x, txc := s.bq.txc + k }, txfifo := f }

/-- `s` without the `k` oldest bits of TXB. -/
def State.dropOldest (k : Nat) (s : State) : State :=
  { s with bq := { s.bq with txb := s.bq.txb &&& lowMask (s.bq.txc - k), txc := s.bq.txc - k } }

/-- The oldest bit held in TXB. -/
def State.oldest (s : State) : Bool := s.bq.txb.getLsbD (s.bq.txc - 1)

theorem txFill_of_byte (n : Nat) {s : State} {c : Byte} {f : Fifo} (h : s.txfifo.pop = some (c, f)) :
    txFill n s = s.queuing 10 ((frame c).setWidth 32) f := by
  rw [txFill, h]
  rfl

theorem txFill_of_empty {n : Nat} {s : State} (h : s.txfifo.pop = none) (hlt : s.bq.txc < n) :
    txFill n s = s.queuing (n - s.bq.txc) (lowMask (n - s.bq.txc)) s.txfifo := by
  rw [txFill, h, State.queuing, Nat.add_sub_cancel' hlt.le]

theorem frame_lt (c : Byte) : ((frame c).setWidth 32 : BitVec 32).toNat < 2 ^ 10 := by
  rw [BitVec.toNat_setWidth]
  exact (Nat.mod_le _ _).trans_lt (frame c).isLt

/-- Where a bit is held, the oldest can be taken before others are appended. -/
theorem dropOldest_queuing {s : State} {k : Nat} {x : BitVec 32} (f : Fifo) (hx : x.toNat < 2 ^ k)
    (hpos : 0 < s.bq.txc) : (s.queuing k x f).dropOldest 1 = (s.dropOldest 1).queuing k x f := by
  have hcount : s.bq.txc + k - 1 = s.bq.txc - 1 + k := by omega
  simp only [State.queuing, State.dropOldest, hcount, shiftLeft_or_and_lowMask _ _ hx]

theorem oldest_queuing {s : State} {k : Nat} {x : BitVec 32} (f : Fifo) (hx : x.toNat < 2 ^ k)
    (hpos : 0 < s.bq.txc) (hfit : s.bq.txc + k ≤ 32) : (s.queuing k x f).oldest = s.oldest := by
  have hcount : s.bq.txc + k - 1 - k = s.bq.txc - 1 := by omega
  simp only [State.oldest, State.queuing, BitVec.getLsbD_or, BitVec.getLsbD_shiftLeft, hcount,
    getLsbD_of_lt_two_pow hx (show k ≤ s.bq.txc + k - 1 by omega)]
  simp [show s.bq.txc + k - 1 < 32 by omega, show ¬ s.bq.txc + k - 1 < k by omega]

theorem dropOldest_dropOldest (j k : Nat) (s : State) : (s.dropOldest j).dropOldest k = s.dropOldest (j + k) := by
  have hle : s.bq.txc - (j + k) ≤ s.bq.txc - j := by omega
  simp only [State.dropOldest, Nat.sub_sub, and_lowMask_and_lowMask _ hle]

theorem BitQ.TxInRange.txb_eq_zero {q : BitQ} (h : q.TxInRange) (hc : q.txc = 0) : q.txb = 0 := by
  have hlt := h.2
  rw [hc] at hlt
  exact BitVec.eq_of_toNat_eq (Nat.lt_one_iff.1 hlt)

/-! ### The framer's loop (R264) -/

theorem txFill_lt_txc {n : Nat} {s : State} (h : s.bq.txc < n) : s.bq.txc < (txFill n s).bq.txc := by
  rcases s.txfifo.pop_cases with ⟨-, hp⟩ | ⟨-, hp⟩
  · rw [txFill_of_empty hp h, State.queuing]
    exact Nat.lt_add_of_pos_right (Nat.sub_pos_of_lt h)
  · rw [txFill_of_byte n hp, State.queuing]
    exact Nat.lt_add_of_pos_right (by decide)

theorem txFillTo_of_le {n : Nat} (turns : Nat) {s : State} (h : n ≤ s.bq.txc) : txFillTo n turns s = s := by
  cases turns with
  | zero => rfl
  | succ k => exact if_neg h.not_gt

theorem txFillTo_of_lt {n : Nat} (turns : Nat) {s : State} (h : s.bq.txc < n) :
    txFillTo n (turns + 1) s = txFillTo n turns (txFill n s) :=
  if_pos h

/-- As each turn adds a bit, as many turns as bits are missing suffice. -/
theorem le_txc_txFillTo {n turns : Nat} {s : State} (h : n ≤ s.bq.txc + turns) : n ≤ (txFillTo n turns s).bq.txc := by
  induction turns generalizing s with
  | zero => exact h
  | succ k ih =>
    rcases Nat.lt_or_ge s.bq.txc n with hlt | hge
    · have hmore := txFill_lt_txc hlt
      rw [txFillTo_of_lt k hlt]
      exact ih (by omega)
    · rwa [txFillTo_of_le _ hge]

/-- A further turn changes nothing. -/
theorem txFillTo_succ_turns {n turns : Nat} {s : State} (h : n ≤ s.bq.txc + turns) :
    txFillTo n (turns + 1) s = txFillTo n turns s := by
  induction turns generalizing s with
  | zero => exact txFillTo_of_le _ h
  | succ k ih =>
    rcases Nat.lt_or_ge s.bq.txc n with hlt | hge
    · have hmore := txFill_lt_txc hlt
      rw [txFillTo_of_lt _ hlt, txFillTo_of_lt _ hlt, ih (by omega)]
    · rw [txFillTo_of_le _ hge, txFillTo_of_le _ hge]

/-- Where a bit is held, the oldest can be taken before a turn. -/
theorem txFill_dropOldest {n : Nat} {s : State} (hpos : 0 < s.bq.txc) (hlt : s.bq.txc < n + 1) :
    txFill n (s.dropOldest 1) = (txFill (n + 1) s).dropOldest 1 := by
  have hsame : (s.dropOldest 1).txfifo = s.txfifo := rfl
  have hcount : (s.dropOldest 1).bq.txc = s.bq.txc - 1 := rfl
  rcases s.txfifo.pop_cases with ⟨-, hp⟩ | ⟨-, hp⟩
  · have hmissing : n - (s.bq.txc - 1) = n + 1 - s.bq.txc := by omega
    rw [txFill_of_empty hp hlt, txFill_of_empty (hsame ▸ hp) (by omega), dropOldest_queuing _ (lowMask_lt _) hpos,
      hcount, hmissing, hsame]
  · rw [txFill_of_byte _ hp, txFill_of_byte _ (hsame ▸ hp), dropOldest_queuing _ (frame_lt _) hpos]

theorem txFillTo_dropOldest (n turns : Nat) {s : State} (hpos : 0 < s.bq.txc) :
    txFillTo n turns (s.dropOldest 1) = (txFillTo (n + 1) turns s).dropOldest 1 := by
  have hcount (s : State) : (s.dropOldest 1).bq.txc = s.bq.txc - 1 := rfl
  induction turns generalizing s with
  | zero => rfl
  | succ k ih =>
    rcases Nat.lt_or_ge s.bq.txc (n + 1) with hlt | hge
    · rw [txFillTo_of_lt k hlt, txFillTo_of_lt k (by rw [hcount]; omega), txFill_dropOldest hpos hlt,
        ih (hpos.trans (txFill_lt_txc hlt))]
    · rw [txFillTo_of_le _ hge, txFillTo_of_le _ (by rw [hcount]; omega)]

theorem txFillTo_oldest {n : Nat} (hn : n ≤ 16) (turns : Nat) {s : State} (hpos : 0 < s.bq.txc) :
    (txFillTo n turns s).oldest = s.oldest := by
  induction turns generalizing s with
  | zero => rfl
  | succ k ih =>
    rcases Nat.lt_or_ge s.bq.txc n with hlt | hge
    · rw [txFillTo_of_lt k hlt, ih (hpos.trans (txFill_lt_txc hlt))]
      rcases s.txfifo.pop_cases with ⟨-, hp⟩ | ⟨-, hp⟩
      · rw [txFill_of_empty hp hlt, oldest_queuing _ (lowMask_lt _) hpos (by omega)]
      · rw [txFill_of_byte _ hp, oldest_queuing _ (frame_lt _) hpos (by omega)]
    · rw [txFillTo_of_le _ hge]

/-! ### A pull of `n` bits (R264) -/

theorem bqTxGet_state (n : Nat) (s : State) : (bqTxGet n s).2 = (txFillTo n n s).dropOldest n := rfl

/-- The answer's bits, bit `n-1` the oldest. -/
theorem getLsbD_bqTxGet {n : Nat} (hn : n ≤ 16) (s : State) (i : Nat) : (bqTxGet n s).1.getLsbD i =
    (decide (i < n) && (txFillTo n n s).bq.txb.getLsbD ((txFillTo n n s).bq.txc - n + i)) := by
  rw [bqTxGet]
  simp only [BitVec.getLsbD_setWidth, BitVec.getLsbD_and, BitVec.getLsbD_ushiftRight, getLsbD_lowMask]
  rcases Nat.lt_or_ge i n with hin | hin
  · simp [hin, show i < 16 by omega, show i < 32 by omega]
  · simp [Nat.not_lt.2 hin]

theorem bqTxGet_lt {n : Nat} (hn : n ≤ 16) (s : State) : (bqTxGet n s).1.toNat < 2 ^ n := by
  refine Nat.lt_pow_two_of_testBit _ fun i hi => ?_
  rw [BitVec.testBit_toNat, getLsbD_bqTxGet hn, decide_eq_false hi.not_gt, Bool.false_and]

/-- With a byte at hand its frame is queued first, whatever is missing. -/
theorem bqTxGet_of_byte {n m : Nat} {s : State} {c : Byte} {f : Fifo} (hp : s.txfifo.pop = some (c, f))
    (hlt : s.bq.txc < n) : bqTxGet n s = bqTxGet n (txFill m s) := by
  obtain ⟨k, rfl⟩ : ∃ k, n = k + 1 := Nat.exists_eq_succ_of_ne_zero (Nat.ne_zero_of_lt hlt)
  have hmore := txFill_lt_txc hlt
  have hfill : txFillTo (k + 1) (k + 1) s = txFillTo (k + 1) (k + 1) (txFill (k + 1) s) := by
    rw [txFillTo_of_lt k hlt, txFillTo_succ_turns (by omega)]
  rw [txFill_of_byte m hp, ← txFill_of_byte (k + 1) hp]
  rw [bqTxGet, hfill]
  rfl

/-- With nothing held and no byte at hand the pull is mark and changes nothing. -/
theorem bqTxGet_idle_line {n : Nat} {s : State} (hc : s.bq.txc = 0) (hb : s.bq.txb = 0) (hp : s.txfifo.pop = none) :
    bqTxGet n s = ((lowMask n).setWidth 16, s) := by
  have hfill : txFillTo n n s = s.queuing n (lowMask n) s.txfifo := by
    cases n with
    | zero => simp [txFillTo, State.queuing, lowMask]
    | succ k =>
      have hfilled := txFill_of_empty (n := k + 1) hp (by omega)
      rw [hc, Nat.sub_zero] at hfilled
      rw [txFillTo_of_lt k (by omega), hfilled]
      exact txFillTo_of_le _ (Nat.le_add_left _ _)
  have hcount : s.bq.txc + n - n = s.bq.txc := Nat.add_sub_cancel _ _
  have hmask (b : BitVec 32) : b &&& lowMask s.bq.txc = s.bq.txb := by
    rw [hc, hb]
    exact BitVec.and_zero
  refine Prod.ext ?_ ?_
  · simp [bqTxGet, hfill, State.queuing, hb, hc]
  · rw [bqTxGet_state, hfill]
    simp only [State.queuing, State.dropOldest, hcount, hmask]

theorem bqTxGet_one_of_held {s : State} (hpos : 0 < s.bq.txc) :
    (bqTxGet 1 s).2 = s.dropOldest 1 ∧ (bqTxGet 1 s).1.getLsbD 0 = s.oldest := by
  have hfill : txFillTo 1 1 s = s := txFillTo_of_le 1 hpos
  rw [bqTxGet_state, getLsbD_bqTxGet (by decide), hfill]
  exact ⟨rfl, rfl⟩

theorem bqTxGet_one_idle_line {s : State} (hc : s.bq.txc = 0) (hb : s.bq.txb = 0) (hp : s.txfifo.pop = none) :
    (bqTxGet 1 s).2 = s ∧ (bqTxGet 1 s).1.getLsbD 0 = true := by
  have hmark : ((lowMask 1).setWidth 16 : BitVec 16).getLsbD 0 = true := by decide
  rw [bqTxGet_idle_line hc hb hp]
  exact ⟨rfl, hmark⟩

/-- With a bit held, a pull of `n + 1` bits is a pull of the oldest and a pull of `n`. -/
theorem bqTxGet_succ_of_held {n : Nat} (hn : n + 1 ≤ 16) {s : State} (hpos : 0 < s.bq.txc) :
    (bqTxGet (n + 1) s).2 = (bqTxGet n (s.dropOldest 1)).2 ∧
    ∀ i, (bqTxGet (n + 1) s).1.getLsbD i = if i = n then s.oldest else (bqTxGet n (s.dropOldest 1)).1.getLsbD i := by
  have hfill : txFillTo n n (s.dropOldest 1) = (txFillTo (n + 1) (n + 1) s).dropOldest 1 := by
    rw [← txFillTo_dropOldest _ _ hpos, txFillTo_succ_turns (Nat.le_add_left _ _)]
  have hheld : n + 1 ≤ (txFillTo (n + 1) (n + 1) s).bq.txc := le_txc_txFillTo (Nat.le_add_left _ _)
  have holdest := txFillTo_oldest hn (n + 1) hpos
  rw [bqTxGet_state, bqTxGet_state, hfill, dropOldest_dropOldest, Nat.add_comm 1 n]
  refine ⟨rfl, fun i => ?_⟩
  rw [getLsbD_bqTxGet hn, getLsbD_bqTxGet (by omega), hfill]
  generalize txFillTo (n + 1) (n + 1) s = t at hheld holdest
  rcases Nat.lt_trichotomy i n with hlt | rfl | hgt
  · have hindex : t.bq.txc - 1 - n + i = t.bq.txc - (n + 1) + i := by omega
    rw [if_neg hlt.ne]
    rw [State.dropOldest, hindex, getLsbD_and_lowMask _ (by omega), decide_eq_true hlt,
      decide_eq_true (hlt.trans n.lt_succ_self)]
  · rw [if_pos rfl, ← holdest, State.oldest, show t.bq.txc - (i + 1) + i = t.bq.txc - 1 by omega]
    simp
  · simp [hgt.ne', show ¬ i < n + 1 by omega, show ¬ i < n by omega]

/-- A pull of `n + 1` bits is a pull of one, which is its most significant, and a pull of `n`. -/
theorem bqTxGet_succ {n : Nat} (hn : n + 1 ≤ 16) {s : State} (h : s.bq.TxInRange) :
    (bqTxGet (n + 1) s).2 = (bqTxGet n (bqTxGet 1 s).2).2 ∧
    ∀ i, (bqTxGet (n + 1) s).1.getLsbD i =
      if i = n then (bqTxGet 1 s).1.getLsbD 0 else (bqTxGet n (bqTxGet 1 s).2).1.getLsbD i := by
  have hheld {t : State} (hpos : 0 < t.bq.txc) : (bqTxGet (n + 1) t).2 = (bqTxGet n (bqTxGet 1 t).2).2 ∧
      ∀ i, (bqTxGet (n + 1) t).1.getLsbD i =
        if i = n then (bqTxGet 1 t).1.getLsbD 0 else (bqTxGet n (bqTxGet 1 t).2).1.getLsbD i := by
    rw [(bqTxGet_one_of_held hpos).1, (bqTxGet_one_of_held hpos).2]
    exact bqTxGet_succ_of_held hn hpos
  rcases Nat.eq_zero_or_pos s.bq.txc with hc | hpos
  · rcases s.txfifo.pop_cases with ⟨-, hp⟩ | ⟨-, hp⟩
    · simp only [bqTxGet_idle_line hc (h.txb_eq_zero hc) hp, BitVec.getLsbD_setWidth, getLsbD_lowMask]
      refine ⟨trivial, fun i => ?_⟩
      rcases eq_or_ne i n with rfl | hne
      · simp [show i < 16 by omega, show i < 32 by omega]
      · have hlt : i < n + 1 ↔ i < n := by omega
        simp [hne, hlt]
    · have hmore : 0 < (txFill 1 s).bq.txc := (Nat.zero_le _).trans_lt (txFill_lt_txc (n := 1) (by omega))
      rw [bqTxGet_of_byte (m := 1) hp (by omega), bqTxGet_of_byte (n := 1) (m := 1) hp (by omega)]
      exact hheld hmore
  · exact hheld hpos

theorem bqTxGet_zero {s : State} (h : s.bq.TxInRange) : (bqTxGet 0 s).2 = s := by
  rw [bqTxGet_state, txFillTo, State.dropOldest, Nat.sub_zero, and_lowMask_of_lt h.2]

/-- A one-bit pull answers its bit. -/
theorem bqTxGet_one_value (s : State) :
    (bqTxGet 1 s).1.setWidth 32 = (BitVec.ofBool ((bqTxGet 1 s).1.getLsbD 0)).setWidth 32 := by
  apply BitVec.eq_of_getLsbD_eq
  intro i hi
  rw [BitVec.getLsbD_setWidth, BitVec.getLsbD_setWidth, BitVec.getLsbD_ofBool]
  rcases Nat.eq_zero_or_pos i with rfl | hpos
  · simp
  · rw [getLsbD_bqTxGet (by decide), decide_eq_false (show ¬ i < 1 by omega)]
    simp [hpos.ne']

/-! ### What a pull leaves (R264) -/

/-- The receive queue, EVT, RXFIFO and the response, which the transmit framer neither reads nor writes. -/
def State.withReceive (b : BitVec 32) (c : Nat) (e : BitVec 11) (f : Fifo) (r : Option Word) (s : State) : State :=
  { s with bq := { s.bq with rxb := b, rxc := c }, evt := e, rxfifo := f, resp := r }

theorem txFill_withReceive (n : Nat) (b : BitVec 32) (c : Nat) (e : BitVec 11) (f : Fifo) (r : Option Word)
    (s : State) : txFill n (s.withReceive b c e f r) = (txFill n s).withReceive b c e f r := by
  have hsame : (s.withReceive b c e f r).txfifo = s.txfifo := rfl
  rcases s.txfifo.pop_cases with ⟨-, hp⟩ | ⟨-, hp⟩ <;> simp only [txFill, hsame, hp] <;> rfl

theorem txFillTo_withReceive (n turns : Nat) (b : BitVec 32) (c : Nat) (e : BitVec 11) (f : Fifo) (r : Option Word)
    (s : State) : txFillTo n turns (s.withReceive b c e f r) = (txFillTo n turns s).withReceive b c e f r := by
  induction turns generalizing s with
  | zero => rfl
  | succ k ih =>
    rw [txFillTo, txFillTo, txFill_withReceive, ih]
    exact (apply_ite (State.withReceive b c e f r) _ _ _).symm

theorem bqTxGet_withReceive (n : Nat) (b : BitVec 32) (c : Nat) (e : BitVec 11) (f : Fifo) (r : Option Word)
    (s : State) : bqTxGet n (s.withReceive b c e f r) = ((bqTxGet n s).1, (bqTxGet n s).2.withReceive b c e f r) := by
  simp only [bqTxGet, txFillTo_withReceive]
  rfl

/-- The transmit framer does not read the response. -/
theorem bqTxGet_withResp (n : Nat) (r : Option Word) (s : State) :
    bqTxGet n (s.withResp r) = ((bqTxGet n s).1, (bqTxGet n s).2.withResp r) := by
  obtain ⟨b, c, f, h⟩ := bqTxGet_frame n s
  refine (bqTxGet_withReceive n s.bq.rxb s.bq.rxc s.evt s.rxfifo r s).trans ?_
  rw [h]
  rfl

theorem bqTxGet_sched (n : Nat) (s : State) : (bqTxGet n s).2.sched = s.sched := by
  rw [bqTxGet_eq]

theorem bqTxGet_txHead (n : Nat) (s : State) : (bqTxGet n s).2.txfifo.head = s.txfifo.head := by
  have hfill (turns : Nat) (t : State) : (txFillTo n turns t).txfifo.head = t.txfifo.head := by
    induction turns generalizing t with
    | zero => rfl
    | succ k ih =>
      rcases Nat.lt_or_ge t.bq.txc n with hlt | hge
      · rw [txFillTo_of_lt k hlt, ih]
        rcases t.txfifo.pop_cases with ⟨-, hp⟩ | ⟨-, hp⟩
        · rw [txFill_of_empty hp hlt, State.queuing]
        · rw [txFill_of_byte n hp, State.queuing]
      · rw [txFillTo_of_le _ hge]
  exact hfill n s

/-! ### BQG (R268) -/

theorem exec_bqg {a : BitVec 8} {s : State} (hidle : s.sched.dp = .none) (hlo : 1 ≤ a.toNat) (hhi : a.toNat ≤ 16) :
    exec (.bqg a) s = .next ((bqTxGet a.toNat s).2.withResp (some ((bqTxGet a.toNat s).1.setWidth 32))) := by
  show execBqg a s = _
  rw [execBqg, direct_idle _ _ hidle, bitCountOperand_val a ⟨hlo, hhi⟩, inRange_some]
  dsimp only
  rw [done_eq_setWidth, BitVec.setWidth_setWidth (by decide)]
  rfl

theorem exec_bqg_one {s : State} (hidle : s.sched.dp = .none) : exec (.bqg 1) s = .next ((bqTxGet 1 s).2.withResp
    (some ((BitVec.ofBool ((bqTxGet 1 s).1.getLsbD 0)).setWidth 32))) := by
  rw [← bqTxGet_one_value]
  exact exec_bqg (a := 1) hidle (by decide) (by decide)

/-- A group of bits pulled one by one: the same state but for the response, and the group's bits as the answers, its
most significant first (R268). -/
theorem bitPulls_run {n : Nat} (hn : n ≤ 16) {s : State} (hidle : s.sched.dp = .none) (h : s.bq.TxInRange) :
    ∃ u, execAll (List.replicate n (.bqg 1)) s = some u ∧ u = (bqTxGet n s).2.withResp u.resp ∧
      ∀ k, k < n → ∃ w, execAll (List.replicate (k + 1) (.bqg 1)) s = some w ∧
        w.resp = some ((BitVec.ofBool ((bqTxGet n s).1.getLsbD (n - 1 - k))).setWidth 32) := by
  induction n generalizing s with
  | zero => exact ⟨s, rfl, by rw [bqTxGet_zero h]; rfl, nofun⟩
  | succ n ih =>
    have hfirst := exec_bqg_one hidle
    obtain ⟨hstate, hbits⟩ := bqTxGet_succ hn h
    obtain ⟨u, hrun, hu, hanswers⟩ := ih (by omega) (s := (bqTxGet 1 s).2.withResp
      (some ((BitVec.ofBool ((bqTxGet 1 s).1.getLsbD 0)).setWidth 32)))
      ((congrArg Sched.dp (bqTxGet_sched 1 s)).trans hidle) (bqTxGet_txInRange 1 (by decide) s h)
    rw [bqTxGet_withResp] at hu
    rw [hstate]
    refine ⟨u, (execAll_cons hfirst).trans hrun, hu, fun k hk => ?_⟩
    rw [List.replicate_succ, execAll_cons hfirst, hbits]
    cases k with
    | zero => exact ⟨_, rfl, by rw [if_pos (by omega)]; rfl⟩
    | succ k =>
      obtain ⟨w, hw, hresp⟩ := hanswers k (by omega)
      refine ⟨w, hw, ?_⟩
      rw [hresp, bqTxGet_withResp, if_neg (by omega), show n + 1 - 1 - (k + 1) = n - 1 - k by omega]

/-- The frame of a byte with nothing held: its start bit is the oldest, the other nine are the byte reversed and the
stop bit (R262). -/
theorem frame_bits (c : Byte) : ((frame c).setWidth 32 : BitVec 32).getLsbD 9 = false ∧
    (frame c).setWidth 32 &&& lowMask 9 = ((rev8 c).setWidth 32 <<< 1 ||| 1 : BitVec 32) := by
  revert c
  decide

theorem bqTxGet_one_of_byte {s : State} (hc : s.bq.txc = 0) (hb : s.bq.txb = 0) {c : Byte} {f : Fifo}
    (hp : s.txfifo.pop = some (c, f)) : (bqTxGet 1 s).1.getLsbD 0 = false ∧ (bqTxGet 1 s).2 = { s with
      bq := { s.bq with txb := (rev8 c).setWidth 32 <<< 1 ||| 1, txc := 9 }
      txfifo := f } := by
  have hfilled : txFill 1 s =
      { s with bq := { s.bq with txb := (frame c).setWidth 32, txc := 10 }, txfifo := f } := by
    have hempty (x : BitVec 32) : s.bq.txb <<< 10 ||| x = x := by simp [hb]
    rw [txFill_of_byte 1 hp, State.queuing, hempty, hc]
  obtain ⟨hstart, hrest⟩ := frame_bits c
  have hheld : 0 < (txFill 1 s).bq.txc := by
    rw [hfilled]
    exact Nat.succ_pos 9
  obtain ⟨hstate, hbit⟩ := bqTxGet_one_of_held hheld
  rw [bqTxGet_of_byte (m := 1) hp (by omega), hstate, hbit, hfilled]
  refine ⟨hstart, ?_⟩
  rw [← hrest]
  rfl

/-- Settles O58: the three cases of a bit, then the group as its bits. -/
theorem transmitFramerBitByBit : Obligations.TransmitFramerBitByBit := by
  unfold Obligations.TransmitFramerBitByBit
  refine ⟨fun s hidle hlt hle => ?_, fun n s hidle hlt hle hlo hhi => ?_⟩
  · have hexec := exec_bqg_one hidle
    have hrange : s.bq.TxInRange := ⟨hle, hlt⟩
    refine ⟨fun hpos => ?_, fun hc hnone => ?_, fun c rest hc hsome => ?_⟩
    · obtain ⟨hstate, hbit⟩ := bqTxGet_one_of_held hpos
      rw [hexec, hstate, hbit, State.dropOldest, and_lowMask_eq_mod _ (by omega)]
      rfl
    · obtain ⟨hstate, hbit⟩ :=
        bqTxGet_one_idle_line hc (hrange.txb_eq_zero hc) (Fifo.pop_of_contents_nil hnone)
      rw [hexec, hstate, hbit]
      rfl
    · obtain ⟨hpop, -⟩ := Fifo.pop_of_contents_cons hsome
      obtain ⟨hbit, hstate⟩ := bqTxGet_one_of_byte hc (hrange.txb_eq_zero hc) hpop
      rw [hexec, hbit, hstate]
      rfl
  · have hn : (BitVec.ofNat 8 n).toNat = n := Nat.mod_eq_of_lt (by omega)
    have hexec := exec_bqg (a := BitVec.ofNat 8 n) hidle (by omega) (by omega)
    rw [hn] at hexec
    obtain ⟨u, hrun, hu, hanswers⟩ := bitPulls_run hhi hidle ⟨hle, hlt⟩
    refine ⟨_, u, _, hexec, rfl, hrun, ?_, fun k hk => ?_⟩
    · rw [hu]
      rfl
    · obtain ⟨w, hw, hresp⟩ := hanswers k hk
      refine ⟨w, hw, ?_⟩
      rw [hresp, BitVec.getLsbD_setWidth, decide_eq_true (by omega), Bool.true_and]

/-! ### The checks of the three commands (R266 to R268) -/

/-- Settles O56: BUSY and RANGE by the shared checks, then what each framer leaves unchanged. -/
theorem bitQueueCommands : Obligations.BitQueueCommands := by
  unfold Obligations.BitQueueCommands
  refine fun a b s => ⟨fun hactive => ?_, fun hidle =>
    ⟨direct_idle _ _ hidle, fun hrange => ?_, fun hlo hhi => ⟨?_, ?_⟩⟩⟩
  · simp only [List.forall_mem_cons, List.not_mem_nil, false_imp_iff, implies_true, and_true]
    exact ⟨direct_busy _ _ hactive, direct_busy _ _ hactive, direct_busy _ _ hactive⟩
  · have hnone := (bitCountOperand_eq_none_iff a).2 hrange
    have hcheck {α : Type} (o : Option α) (body : α → Result) (ho : o = none) :
        direct s (inRange o s body) = errorAnswer .range s := by
      rw [direct_idle _ _ hidle, ho, inRange_none, raise_eq_errorAnswer]
    exact ⟨hcheck _ _ hnone, hcheck _ _ hnone⟩
  · obtain ⟨rxb, rxc, e, f, hframe⟩ := bqRxPut_frame a.toNat b s
    obtain ⟨⟨m, hevt⟩, htail⟩ := bqRxPut_onlyReceives a.toNat b s
    obtain ⟨-, hcount⟩ := bqRxPut_count a.toNat b s
    refine ⟨_, m, (bqRxPut a.toNat b s).1, exec_bqp b hidle hlo hhi, ?_, htail, fun hheld => by omega⟩
    rw [← hevt, hframe]
    rfl
  · obtain ⟨txb, txc, ⟨head, tail, cells⟩, hframe⟩ := bqTxGet_frame a.toNat s
    obtain rfl : head = s.txfifo.head := by rw [← bqTxGet_txHead a.toNat s, hframe]
    obtain rfl : cells = s.txfifo.cells := by rw [← bqTxGet_txCells a.toNat s, hframe]
    refine ⟨_, (bqTxGet a.toNat s).1.toNat, exec_bqg hidle hlo hhi, ?_, bqTxGet_lt hhi s⟩
    rw [BitVec.ofNat_toNat, hframe]
    rfl

end Sys2Proof.Machine
end

section
/-! FramingLoopback.lean: the transmit framer fed into the receive framer (47_framing_fifo.md R262, R265): one frame
there and back, the idle line, and the bytes of TXFIFO moved to RXFIFO however the bit stream is cut into groups. -/

namespace Sys2Proof.Machine

/-! ### A frame on the line (R262) -/

/-- The ten bits of a byte's frame: the bits themselves, the start bit, the stop bit, the byte between them, and
nothing above. -/
theorem frame_line (c : Byte) : ((frame c).setWidth 16 : BitVec 16) = (rev8 c).setWidth 16 <<< 1 ||| 1 ∧
    ((frame c).setWidth 16 : BitVec 16).getLsbD 9 = false ∧ ((frame c).setWidth 16 : BitVec 16).getLsbD 0 = true ∧
    rev8 (((frame c).setWidth 16 >>> 1 : BitVec 16).setWidth 8) = c ∧
    ((frame c).setWidth 16 >>> 9 : BitVec 16) = 0 := by
  revert c
  decide

/-- With nothing held, ten bits are the frame of the oldest byte. -/
theorem bqTxGet_ten_of_byte {s : State} (hc : s.bq.txc = 0) (hb : s.bq.txb = 0) {c : Byte} {f : Fifo}
    (hp : s.txfifo.pop = some (c, f)) : bqTxGet 10 s = ((frame c).setWidth 16, { s with txfifo := f }) := by
  have hempty (x : BitVec 32) : s.bq.txb <<< 10 ||| x = x := by simp [hb]
  have hfilled : txFillTo 10 10 s =
      { s with bq := { s.bq with txb := (frame c).setWidth 32, txc := 10 }, txfifo := f } := by
    rw [txFillTo_of_lt 9 (by omega), txFill_of_byte 10 hp, State.queuing, hempty, hc]
    exact txFillTo_of_le 9 le_rfl
  have hmask (b : BitVec 32) : b &&& lowMask s.bq.txc = s.bq.txb := by
    rw [hc, hb]
    exact BitVec.and_zero
  refine Prod.ext ?_ ?_
  · simp only [bqTxGet, hfilled, Nat.sub_self, BitVec.ushiftRight_zero, and_lowMask_of_lt (frame_lt c)]
    exact BitVec.setWidth_setWidth (by decide)
  · rw [bqTxGet_state, hfilled]
    simp only [State.dropOldest, Nat.sub_self, ← hc, hmask]

/-- `s` with the bits `v[9]` down to `v[j+1]` of a frame held in RXB. -/
def State.holding (v : BitVec 16) (j : Nat) (s : State) : State :=
  { s with bq := { s.bq with rxb := (v >>> (j + 1)).setWidth 32, rxc := 9 - j } }

theorem holding_rxInRange {v : BitVec 16} (hv : v.toNat < 2 ^ 10) (hstart : v.getLsbD 9 = false) {j : Nat} (hj : j ≤ 8)
    (s : State) : (s.holding v j).bq.RxInRange := by
  have hfits : (v >>> (j + 1)).toNat < 2 ^ (9 - j) := by
    rw [BitVec.toNat_ushiftRight, Nat.shiftRight_eq_div_pow]
    refine Nat.div_lt_of_lt_mul ?_
    rwa [← pow_add, show j + 1 + (9 - j) = 10 by omega]
  refine ⟨Nat.sub_le _ _, ?_, fun _ => ?_⟩
  · simp only [State.holding, BitVec.toNat_setWidth]
    exact (Nat.mod_le _ _).trans_lt hfits
  · simp only [State.holding, BitVec.getLsbD_setWidth, BitVec.getLsbD_ushiftRight]
    rw [show j + 1 + (9 - j - 1) = 9 by omega, hstart, Bool.and_false]

theorem appendBit_shifted (v : BitVec 16) (j : Nat) :
    appendBit (v.getLsbD j) ((v >>> (j + 1)).setWidth 32) = (v >>> j).setWidth 32 := by
  apply BitVec.eq_of_getLsbD_eq
  intro i hi
  cases i with
  | zero =>
    rw [getLsbD_appendBit_zero, BitVec.getLsbD_setWidth, BitVec.getLsbD_ushiftRight]
    simp
  | succ i =>
    rw [getLsbD_appendBit_succ _ _ hi]
    simp [show i < 32 by omega, hi, show j + 1 + i = j + (i + 1) by omega]

/-- The rest of a frame of stop bit 1 delivers its byte. -/
theorem bqRxPut_holding {v : BitVec 16} (hv : v.toNat < 2 ^ 10) (hstart : v.getLsbD 9 = false)
    (hstop : v.getLsbD 0 = true) {s : State} (hroom : s.rxfifo.contents.length ≠ 255) {j : Nat} (hj : j ≤ 8) :
    bqRxPut (j + 1) v (s.holding v j) = (1, { s with
      bq := { s.bq with rxb := 0, rxc := 0 }
      rxfifo := s.rxfifo.pushed (rev8 ((v >>> 1).setWidth 8)) }) := by
  induction j with
  | zero =>
    have hbit := rxBit_complete_of_room (v.getLsbD 0) (holding_rxInRange hv hstart hj s) rfl hroom
    have hbyte : ((v >>> 1).setWidth 32 : BitVec 32).setWidth 8 = (v >>> 1).setWidth 8 :=
      BitVec.setWidth_setWidth (by decide)
    rw [bqRxPut_one, hbit, hstop]
    simp only [State.holding, Nat.zero_add, hbyte, if_true]
  | succ j ih =>
    have hbit : rxBit (v.getLsbD (j + 1)) (s.holding v (j + 1)) = (0, s.holding v j) := by
      rw [rxBit_hold (holding_rxInRange hv hstart hj s) (by simp only [State.holding]; omega)
        (by simp only [State.holding]; omega)]
      simp only [State.holding, appendBit_shifted, show 9 - (j + 1) + 1 = 9 - j by omega]
    rw [bqRxPut, hbit]
    simp only [ih (by omega), Nat.zero_add]

/-- The frame of a byte, received with nothing held, delivers that byte with no event. -/
theorem bqRxPut_of_frame (c : Byte) {s : State} (hc : s.bq.rxc = 0) (hb : s.bq.rxb = 0)
    (hroom : s.rxfifo.contents.length ≠ 255) :
    bqRxPut 10 ((frame c).setWidth 16) s = (1, { s with rxfifo := s.rxfifo.pushed c }) := by
  obtain ⟨-, hstart, hstop, hbyte, htop⟩ := frame_line c
  have hv : ((frame c).setWidth 16 : BitVec 16).toNat < 2 ^ 10 := by
    rw [BitVec.toNat_setWidth]
    exact (Nat.mod_le _ _).trans_lt (frame c).isLt
  generalize ((frame c).setWidth 16 : BitVec 16) = v at *
  have hempty : (v >>> 9).setWidth 32 = s.bq.rxb := by
    rw [htop, hb]
    rfl
  have hfirst : rxBit (v.getLsbD 9) s = (0, s.holding v 8) := by
    rw [hstart, rxBit_start hc hb]
    simp only [State.holding, hempty]
  rw [bqRxPut, hfirst]
  simp only [bqRxPut_holding hv hstart hstop hroom le_rfl, hbyte, Nat.zero_add]
  rw [← hb, ← hc]

theorem exec_bqg_ten_of_byte {s : State} (hidle : s.sched.dp = .none) (hc : s.bq.txc = 0) (hb : s.bq.txb = 0) {c : Byte}
    {f : Fifo} (hp : s.txfifo.pop = some (c, f)) : exec (.bqg 10) s =
      .next (({ s with txfifo := f } : State).withResp (some (((frame c).setWidth 16).setWidth 32))) := by
  have hget : bqTxGet (10 : BitVec 8).toNat s = _ := bqTxGet_ten_of_byte hc hb hp
  rw [exec_bqg hidle (by decide) (by decide), hget]

theorem exec_bqp_ten_of_frame (c : Byte) {s : State} (hidle : s.sched.dp = .none) (hc : s.bq.rxc = 0)
    (hb : s.bq.rxb = 0) (hroom : s.rxfifo.contents.length ≠ 255) : exec (.bqp 10 ((frame c).setWidth 16)) s =
      .next (({ s with rxfifo := s.rxfifo.pushed c } : State).withResp (some 1)) := by
  have hput : bqRxPut (10 : BitVec 8).toNat ((frame c).setWidth 16) s = _ := bqRxPut_of_frame c hc hb hroom
  rw [exec_bqp _ hidle (by decide) (by decide), hput]
  rfl

/-! ### The idle line (R262, R265) -/

theorem bqRxPut_mark {n : Nat} (hn : n ≤ 16) {s : State} (hc : s.bq.rxc = 0) (hb : s.bq.rxb = 0) :
    bqRxPut n 0xFFFF s = (0, s) := by
  have hones : ∀ i < 16, (0xFFFF : BitVec 16).getLsbD i = true := by decide
  induction n with
  | zero => rfl
  | succ n ih => simp only [bqRxPut, hones n hn, rxBit_mark hc hb, ih (by omega)]

theorem setWidth_lowMask {n : Nat} (hn : n ≤ 16) : ((lowMask n).setWidth 16).setWidth 32 = lowMask n := by
  apply BitVec.eq_of_getLsbD_eq
  intro i hi
  rw [BitVec.getLsbD_setWidth, BitVec.getLsbD_setWidth, getLsbD_lowMask]
  rcases Nat.lt_or_ge i n with hlt | hge
  · simp [hi, show i < 16 by omega]
  · simp [Nat.not_lt.2 hge]

/-- Settles O59: one frame pulled and pushed, then the idle line in both directions. -/
theorem framingRoundTripOfOneByte : Obligations.FramingRoundTripOfOneByte := by
  unfold Obligations.FramingRoundTripOfOneByte
  refine ⟨fun c s hidle ⟨_, hrx, _⟩ hbq hone hspace => ?_, fun a s hidle hlo hhi hbq => ⟨fun hnone => ?_, ?_⟩⟩
  · obtain ⟨hpop, hempty⟩ := Fifo.pop_of_contents_cons hone
    have hpull := exec_bqg_ten_of_byte hidle (by rw [hbq]) (by rw [hbq]) hpop
    have hpush := exec_bqp_ten_of_frame c (s := ({ s with txfifo := s.txfifo.popped } : State).withResp
      (some (((frame c).setWidth 16).setWidth 32))) hidle (congrArg BitQ.rxc hbq) (congrArg BitQ.rxb hbq) hspace.ne
    exact ⟨_, _, (frame c).setWidth 16, (frame_line c).1, hpull, rfl, hpush, rfl,
      Fifo.contents_pushed c hrx (s.rxfifo.length_contents_eq_255_iff.not.1 hspace.ne), hempty, rfl, hbq⟩
  · have hget : bqTxGet a.toNat s = _ :=
      bqTxGet_idle_line (by rw [hbq]) (by rw [hbq]) (Fifo.pop_of_contents_nil hnone)
    rw [exec_bqg hidle hlo hhi, hget, setWidth_lowMask hhi]
    rfl
  · rw [exec_bqp _ hidle hlo hhi, bqRxPut_mark hhi (by rw [hbq]) (by rw [hbq])]
    rfl

/-! ### Pulled bits pushed (R265) -/

/-- `s` with what the transmit framer writes. -/
def State.withTransmit (b : BitVec 32) (c : Nat) (f : Fifo) (s : State) : State :=
  { s with bq := { s.bq with txb := b, txc := c }, txfifo := f }

theorem rxAppend_withTransmit (bit : Bool) (b : BitVec 32) (c : Nat) (q : BitQ) :
    rxAppend bit { q with txb := b, txc := c } =
      ((rxAppend bit q).1, { (rxAppend bit q).2 with txb := b, txc := c }) := by
  simp only [rxAppend]
  split <;> rfl

theorem rxDeliver_withTransmit (fr : BitVec 10) (b : BitVec 32) (c : Nat) (f : Fifo) (s : State) :
    rxDeliver fr (s.withTransmit b c f) = (rxDeliver fr s).withTransmit b c f := by
  by_cases hfull : s.rxfifo.contents.length = 255
  · rw [rxDeliver_of_full fr hfull, rxDeliver_of_full fr (s := s.withTransmit b c f) hfull]
    rfl
  · rw [rxDeliver_of_room fr hfull, rxDeliver_of_room fr (s := s.withTransmit b c f) hfull]
    rfl

/-- The receive framer neither reads nor writes what the transmit framer does. -/
theorem rxBit_withTransmit (bit : Bool) (b : BitVec 32) (c : Nat) (f : Fifo) (s : State) :
    rxBit bit (s.withTransmit b c f) = ((rxBit bit s).1, (rxBit bit s).2.withTransmit b c f) := by
  have happend := rxAppend_withTransmit bit b c s.bq
  have hbq : (s.withTransmit b c f).bq = { s.bq with txb := b, txc := c } := rfl
  rw [rxBit, rxBit, hbq, happend]
  cases rxAppend bit s.bq with
  | mk fr q =>
    cases fr with
    | none => rfl
    | some fr => exact congrArg (Prod.mk 1) (rxDeliver_withTransmit fr b c f { s with bq := q })

/-- Pulling bits and pushing a bit can be exchanged. -/
theorem bqTxGet_rxBit (n : Nat) (bit : Bool) (s : State) :
    bqTxGet n (rxBit bit s).2 = ((bqTxGet n s).1, (rxBit bit (bqTxGet n s).2).2) := by
  obtain ⟨b, c, e, f, hreceive⟩ := rxBit_frame bit s
  obtain ⟨b', c', f', htransmit⟩ := bqTxGet_frame n s
  have hr : (rxBit bit s).2 = s.withReceive b c e f s.resp := hreceive
  have ht : (bqTxGet n s).2 = s.withTransmit b' c' f' := htransmit
  rw [hr, bqTxGet_withReceive, ht, rxBit_withTransmit, hr]
  rfl

/-- The receive framer reads the low `n` bits of its operand. -/
theorem bqRxPut_congr {n : Nat} {v w : BitVec 16} (h : ∀ i < n, v.getLsbD i = w.getLsbD i) (s : State) :
    bqRxPut n v s = bqRxPut n w s := by
  induction n generalizing s with
  | zero => rfl
  | succ n ih => simp only [bqRxPut, h n n.lt_succ_self, ih fun i hi => h i (hi.trans n.lt_succ_self)]

/-- `n` bits pulled from the transmit framer and pushed into the receive framer. -/
def loopGroup (n : Nat) (s : State) : State := (bqRxPut n (bqTxGet n s).1 (bqTxGet n s).2).2

theorem loopGroup_withResp (n : Nat) (r : Option Word) (s : State) :
    loopGroup n (s.withResp r) = (loopGroup n s).withResp r := by
  rw [loopGroup, bqTxGet_withResp, bqRxPut_withResp]
  rfl

theorem loopGroup_sched (n : Nat) (s : State) : (loopGroup n s).sched = s.sched := by
  rw [loopGroup, bqRxPut_sched, bqTxGet_sched]

theorem loopGroup_txInRange {n : Nat} (hn : n ≤ 16) {s : State} (h : s.bq.TxInRange) :
    (loopGroup n s).bq.TxInRange := by
  obtain ⟨b, c, e, f, hreceive⟩ := bqRxPut_frame n (bqTxGet n s).1 (bqTxGet n s).2
  rw [loopGroup, hreceive]
  exact bqTxGet_txInRange n hn s h

theorem bqRxPut_succ_state (n : Nat) (v : BitVec 16) (s : State) :
    (bqRxPut (n + 1) v s).2 = (bqRxPut n v (rxBit (v.getLsbD n) s).2).2 := rfl

theorem loopGroup_one (s : State) : loopGroup 1 s = (rxBit ((bqTxGet 1 s).1.getLsbD 0) (bqTxGet 1 s).2).2 := rfl

/-- A group of `n` bits is `n` groups of one bit. -/
theorem loopGroup_eq_iterate {n : Nat} (hn : n ≤ 16) {s : State} (h : s.bq.TxInRange) :
    loopGroup n s = (loopGroup 1)^[n] s := by
  induction n generalizing s with
  | zero => exact bqTxGet_zero h
  | succ n ih =>
    obtain ⟨hstate, hbits⟩ := bqTxGet_succ hn h
    have hhead : (bqTxGet (n + 1) s).1.getLsbD n = (bqTxGet 1 s).1.getLsbD 0 := by rw [hbits, if_pos rfl]
    have hrest : ∀ i < n, (bqTxGet (n + 1) s).1.getLsbD i = (bqTxGet n (bqTxGet 1 s).2).1.getLsbD i := fun i hi => by
      rw [hbits, if_neg hi.ne]
    rw [Function.iterate_succ_apply, ← ih (by omega) (loopGroup_txInRange (by decide) h), loopGroup_one, loopGroup,
      loopGroup, bqTxGet_rxBit, hstate, bqRxPut_succ_state, hhead]
    exact congrArg Prod.snd (bqRxPut_congr hrest _)

/-! ### The bytes arrive (R265) -/

/-- The state between two frames moves one byte in ten bits. -/
theorem loopGroup_ten_of_byte {s : State} (hbq : s.bq = ⟨0, 0, 0, 0⟩) {c : Byte} {f : Fifo}
    (hp : s.txfifo.pop = some (c, f)) (hroom : s.rxfifo.contents.length ≠ 255) :
    loopGroup 10 s = { s with txfifo := f, rxfifo := s.rxfifo.pushed c } := by
  rw [loopGroup, bqTxGet_ten_of_byte (by rw [hbq]) (by rw [hbq]) hp]
  exact congrArg Prod.snd (bqRxPut_of_frame c (s := { s with txfifo := f }) (congrArg BitQ.rxc hbq)
    (congrArg BitQ.rxb hbq) hroom)

/-- With no byte left a bit is mark and changes nothing. -/
theorem loopGroup_one_idle {s : State} (hbq : s.bq = ⟨0, 0, 0, 0⟩) (hp : s.txfifo.pop = none) : loopGroup 1 s = s := by
  obtain ⟨hstate, hbit⟩ := bqTxGet_one_idle_line (by rw [hbq]) (by rw [hbq]) hp
  rw [loopGroup_one, hstate, hbit, rxBit_mark (by rw [hbq]) (by rw [hbq])]

/-- Enough bits move all bytes of TXFIFO to the end of RXFIFO, and nothing else changes. -/
theorem loopGroup_one_iterate_delivers {bytes : List Byte} {bits : Nat} {s : State} (hbq : s.bq = ⟨0, 0, 0, 0⟩)
    (htx : s.txfifo.contents = bytes) (hrx : s.rxfifo.cells.wf 256 = true)
    (hroom : s.rxfifo.contents.length + bytes.length ≤ 255) (henough : 10 * bytes.length ≤ bits) :
    ∃ f g, (loopGroup 1)^[bits] s = { s with txfifo := f, rxfifo := g } ∧ f.contents = [] ∧
      g.contents = s.rxfifo.contents ++ bytes := by
  induction bytes generalizing bits s with
  | nil =>
    have hfixed := loopGroup_one_idle hbq (Fifo.pop_of_contents_nil htx)
    exact ⟨s.txfifo, s.rxfifo, Function.iterate_fixed hfixed bits, htx, (List.append_nil _).symm⟩
  | cons c rest ih =>
    obtain ⟨hpop, hrest⟩ := Fifo.pop_of_contents_cons htx
    rw [List.length_cons] at hroom henough
    obtain ⟨more, rfl⟩ : ∃ more, bits = more + 10 := ⟨bits - 10, by omega⟩
    have hne : s.rxfifo.contents.length ≠ 255 := by omega
    have hpushed := Fifo.contents_pushed c hrx (s.rxfifo.length_contents_eq_255_iff.not.1 hne)
    have hrange : s.bq.TxInRange := by
      rw [hbq]
      exact ⟨Nat.zero_le _, Nat.one_pos⟩
    obtain ⟨f, g, hrun, hf, hg⟩ := ih (s := { s with txfifo := s.txfifo.popped, rxfifo := s.rxfifo.pushed c })
      (bits := more) hbq hrest (Fifo.push_wf (Fifo.push_of_room c hne) hrx)
      (by rw [hpushed, List.length_append, List.length_singleton]; omega) (by omega)
    refine ⟨f, g, ?_, hf, ?_⟩
    · rw [Function.iterate_add_apply, ← loopGroup_eq_iterate (by decide) hrange, loopGroup_ten_of_byte hbq hpop hne,
        hrun]
    · rw [hg, hpushed, List.append_assoc, List.singleton_append]

theorem loopback_cons (n : Fin 16) (rest : List (Fin 16)) {s : State} (hidle : s.sched.dp = .none) :
    ∃ r, loopback (n :: rest) s = loopback rest ((loopGroup (n.val + 1) s).withResp r) := by
  have hn : (BitVec.ofNat 8 (n.val + 1)).toNat = n.val + 1 := Nat.mod_eq_of_lt (by omega)
  have hpull := exec_bqg (a := BitVec.ofNat 8 (n.val + 1)) hidle (by omega) (by omega)
  have hpush (v : BitVec 16) (t : State) (ht : t.sched.dp = .none) :=
    exec_bqp (a := BitVec.ofNat 8 (n.val + 1)) v ht (by omega) (by omega)
  have hstill (r : Option Word) : ((bqTxGet (n.val + 1) s).2.withResp r).sched.dp = .none :=
    (congrArg Sched.dp (bqTxGet_sched _ s)).trans hidle
  have hanswer (v : BitVec 16) (t : State) : ((t.withResp (some (v.setWidth 32))).resp.getD 0).setWidth 16 = v :=
    (BitVec.setWidth_setWidth (by decide)).trans (BitVec.setWidth_eq v)
  rw [hn] at hpull hpush
  rw [loopback, hpull]
  dsimp only
  rw [hanswer, hpush _ _ (hstill _), bqRxPut_withResp]
  exact ⟨_, rfl⟩

/-- However the bit stream is cut, the commands run it bit by bit; the response is the last answer. -/
theorem loopback_eq_iterate (groups : List (Fin 16)) {s : State} (hidle : s.sched.dp = .none) (h : s.bq.TxInRange) :
    ∃ r, loopback groups s = some (((loopGroup 1)^[(groups.map fun n => n.val + 1).sum] s).withResp r) := by
  induction groups generalizing s with
  | nil => exact ⟨s.resp, rfl⟩
  | cons n rest ih =>
    obtain ⟨r, hgroup⟩ := loopback_cons n rest hidle
    obtain ⟨r', hrest⟩ := ih (s := (loopGroup (n.val + 1) s).withResp r)
      ((congrArg Sched.dp (loopGroup_sched _ s)).trans hidle) (loopGroup_txInRange n.isLt h)
    have hresp : Function.Commute (loopGroup 1) (State.withResp r) := loopGroup_withResp 1 r
    refine ⟨r', hgroup.trans (hrest.trans ?_)⟩
    rw [(hresp.iterate_left _).eq, loopGroup_eq_iterate n.isLt h, List.map_cons, List.sum_cons,
      Nat.add_comm (n.val + 1), Function.iterate_add_apply]
    rfl

/-- Settles O60: the groups as their bits, and the bits frame by frame. -/
theorem framingLoopbackDeliversTheBytes : Obligations.FramingLoopbackDeliversTheBytes := by
  unfold Obligations.FramingLoopbackDeliversTheBytes
  intro groups s hidle hmem hbq hempty henough
  obtain ⟨-, hrx, -⟩ := hmem
  have hrange : s.bq.TxInRange := by
    rw [hbq]
    exact ⟨Nat.zero_le _, Nat.one_pos⟩
  have hroom : s.rxfifo.contents.length + s.txfifo.contents.length ≤ 255 := by
    rw [hempty, s.txfifo.length_contents, List.length_nil, Nat.zero_add]
    exact Nat.le_of_lt_succ s.txfifo.count.isLt
  obtain ⟨r, hloop⟩ := loopback_eq_iterate groups hidle hrange
  obtain ⟨f, g, hrun, hf, hg⟩ := loopGroup_one_iterate_delivers hbq rfl hrx hroom henough
  rw [hrun] at hloop
  rw [hempty, List.nil_append] at hg
  exact ⟨_, hloop, hg, hf, rfl, hbq⟩

end Sys2Proof.Machine
end

section
/-! Scheduler.lean: the direct commands leave the scheduler alone (48_scheduler_host.md R318, 60_exceptions.md R350),
and every step leaves no request outstanding and the line state in agreement with DP (48_scheduler_host.md R291, R294,
R296, 70_reset_and_hazards.md R384). -/

namespace Sys2Proof.Machine

/-! ### What a direct command leaves alone (R318) -/

/-- From `s` to `t` the scheduler, the dialer and the sample buffers are the same, and no events but FRAMING, RXOVF and
CMDERR are added (R318). -/
structure OutsideScheduler (s t : State) : Prop where
  sched : t.sched = s.sched := by rfl
  dial : t.dial = s.dial := by rfl
  inbuf : t.inbuf = s.inbuf := by rfl
  outbuf : t.outbuf = s.outbuf := by rfl
  evt : ∃ m : BitVec 11, t.evt = s.evt ||| (m &&& 0x418) := by exact ⟨0, BitVec.or_zero.symm⟩

theorem outsideScheduler_ignoresAnswer : IgnoresAnswer OutsideScheduler where
  refl _ := {}
  resp _ _ _ h := { h with }
  error _ _ h := { h with
    evt := by
      obtain ⟨m, hm⟩ := h.evt
      refine ⟨m ||| 0x400, ?_⟩
      have hmask : Event.cmderr.mask = 0x400 &&& 0x418 := by decide
      rw [event_evt, hm, hmask, BitVec.or_assoc, BitVec.and_or_distrib_right] }

/-- The events of the receive framer are among those a direct command may add (R263). -/
theorem OnlyReceives.evt {s t : State} (h : OnlyReceives s t) :
    ∃ m : BitVec 11, t.evt = s.evt ||| (m &&& 0x418) := by
  obtain ⟨⟨m, hm⟩, -⟩ := h
  have hmask : (0x18 : BitVec 11) = 0x18 &&& 0x418 := by decide
  exact ⟨m &&& 0x18, by rw [hm, BitVec.and_assoc, ← hmask]⟩

theorem fskDem_onlyReceives (x : Int) (s : State) : OnlyReceives s (fskDem x s).2.2 := by
  have hheard : OnlyReceives s (fskHeard x s) := .refl s
  rw [fskDem_eq]
  dsimp only
  split
  · exact hheard.trans (bqRxPut_onlyReceives 1 _ _)
  · exact hheard

/-- Of the phases only DATA hands bits to the receive framer (46_psk_negotiation.md R242). -/
theorem negPut_onlyReceives (sym : BitVec 2) (s : State) : OnlyReceives s (negPut sym s).2 := by
  have hsame (n : Neg) (c : Scr) : OnlyReceives s { s with neg := n, scr := c } := .refl s
  unfold negPut
  split
  · exact bqRxPut_onlyReceives 2 _ { s with scr := (scrDecDibit sym s.scr).2 }
  · exact .refl s
  · exact hsame _ s.scr
  · exact hsame _ _

theorem pskDem_onlyReceives (x : Int) (s : State) : OnlyReceives s (pskDem x s).2.2 := by
  have hheard : OnlyReceives s (pskHeard x s) := .refl s
  rw [pskDem_eq]
  dsimp only
  split
  · exact hheard.trans (negPut_onlyReceives _ _)
  · exact hheard

theorem detStep_outsideScheduler (x : Int) (s : State) : OutsideScheduler s (detStep x s).2 := by
  obtain ⟨o, d, he⟩ := detStep_frame x s
  rw [he]
  exact {}

theorem dtmfSample_outsideScheduler (s : State) : OutsideScheduler s (dtmfSample s).2 := by
  obtain ⟨o, r, he⟩ := dtmfSample_frame s
  rw [he]
  exact {}

theorem bqRxPut_outsideScheduler (n : Nat) (v : BitVec 16) (s : State) : OutsideScheduler s (bqRxPut n v s).2 := by
  have hevt := (bqRxPut_onlyReceives n v s).evt
  obtain ⟨b, c, e, f, he⟩ := bqRxPut_frame n v s
  rw [he] at hevt ⊢
  exact { evt := hevt }

theorem bqTxGet_outsideScheduler (n : Nat) (s : State) : OutsideScheduler s (bqTxGet n s).2 := by
  obtain ⟨b, c, f, he⟩ := bqTxGet_frame n s
  rw [he]
  exact {}

theorem fskMod_outsideScheduler (s : State) : OutsideScheduler s (fskMod s).2 := by
  obtain ⟨o, f, b, c, x, he⟩ := fskMod_frame s
  rw [he]
  exact {}

theorem fskDem_outsideScheduler (x : Int) (s : State) : OutsideScheduler s (fskDem x s).2.2 := by
  have hevt := (fskDem_onlyReceives x s).evt
  obtain ⟨o, f, t, b, c, e, r, he⟩ := fskDem_frame x s
  rw [he] at hevt ⊢
  exact { evt := hevt }

theorem pskMod_outsideScheduler (s : State) : OutsideScheduler s (pskMod s).2 := by
  obtain ⟨o, p, h, c, b, n, x, he⟩ := pskMod_frame s
  rw [he]
  exact {}

theorem pskDem_outsideScheduler (x : Int) (s : State) : OutsideScheduler s (pskDem x s).2.2 := by
  have hevt := (pskDem_onlyReceives x s).evt
  obtain ⟨o, p, t, g, k, b, c, e, f, he⟩ := pskDem_frame x s
  rw [he] at hevt ⊢
  exact { evt := hevt }

theorem execDtk_outsideScheduler (b : BitVec 16) (s : State) : EndsIn (OutsideScheduler s) (execDtk b s) := by
  have hR := outsideScheduler_ignoresAnswer
  refine hR.direct ?_
  split
  · exact hR.done _ {}
  · exact hR.raise _ s

/-- Every direct command stays outside the scheduler, in every state. -/
theorem exec_outsideScheduler {i : Instr} (hi : isDirect i = true) (s : State) :
    EndsIn (OutsideScheduler s) (exec i s) := by
  have hR := outsideScheduler_ignoresAnswer
  cases i
  case oscp | osci | osca | oscc | oscs | oscr => exact hR.withOsc fun _ => hR.done _ {}
  case deti | dett | fski | pski | firt | firr | scri | scre | scrd | tims | bqi => exact hR.direct (hR.done _ {})
  case timi => exact hR.direct (hR.inRange fun _ _ => hR.done _ {})
  case dets b => exact hR.direct (hR.done _ (detStep_outsideScheduler _ s))
  case dtk b => exact execDtk_outsideScheduler b s
  case dts => exact hR.direct (hR.done _ (dtmfSample_outsideScheduler s))
  case fskm => exact hR.direct (hR.done _ (fskMod_outsideScheduler s))
  case fskd b => exact hR.direct (hR.done _ (fskDem_outsideScheduler _ s))
  case pskm => exact hR.direct (hR.done _ (pskMod_outsideScheduler s))
  case pskd b => exact hR.direct (hR.done _ (pskDem_outsideScheduler _ s))
  case bqp a b => exact hR.direct (hR.inRange fun n _ => hR.done _ (bqRxPut_outsideScheduler n b s))
  case bqg a => exact hR.direct (hR.inRange fun n _ => hR.done _ (bqTxGet_outsideScheduler n s))
  all_goals cases hi

/-- Every command answers a next state: it fails with one of its errors or completes (60_exceptions.md R351, R355). -/
theorem exec_answers (i : Instr) (s : State) : ∃ t, exec i s = .next t := by
  have h := exec_answersInOrder i s
  by_cases hb : failsBusy i s
  · exact ⟨_, h.reported hb⟩
  · by_cases hr : failsRange i
    · exact ⟨_, (h.passed hb).reported hr⟩
    · by_cases hk : failsBadkey i
      · exact ⟨_, ((h.passed hb).passed hr).reported hk⟩
      · by_cases hf : failsFull i s
        · exact ⟨_, (((h.passed hb).passed hr).passed hk).reported hf⟩
        · obtain ⟨t, -, ht, -⟩ := (((h.passed hb).passed hr).passed hk).passed hf
          exact ⟨t, ht⟩

/-- Settles O16: BUSY is the direct commands' row of the error table, and what they do in idle mode is outside the
scheduler. -/
theorem directCommandsStayOutsideTheScheduler : Obligations.DirectCommandsStayOutsideTheScheduler := by
  unfold Obligations.DirectCommandsStayOutsideTheScheduler
  refine fun i s hi => ⟨fun hactive => exec_of_failsBusy (.inl ⟨.inl hi, hactive⟩), fun _ => ?_⟩
  obtain ⟨t, ht⟩ := exec_answers i s
  have h := exec_outsideScheduler hi s t ht
  obtain ⟨m, hm⟩ := h.evt
  exact ⟨t, m, ht, h.sched, h.dial, h.inbuf, h.outbuf, hm⟩

/-! ### The scheduler's registers inside a block (R291, R296) -/

/-- The scheduler while a command is under way: `State.Scheduled` but for a request, which only an active datapump
makes. -/
structure Sched.Underway (c : Sched) : Prop where
  settled : c.pend = false → c.next = .dp c.dp
  requested : c.pend = true → c.dp ≠ .none
  seized : c.offhook = true ↔ c.dp ≠ .none
  connected : c.connect = true → c.dp = .fsk ∨ c.dp = .psk

namespace Sched.Underway

variable {c : Sched} (h : c.Underway)
include h

theorem request (hdp : c.dp ≠ .none) (x : Target) : Underway { c with next := x, pend := true } where
  settled := nofun
  requested _ := hdp
  seized := h.seized
  connected := h.connected

theorem timed (n : Nat) : Underway { c with lt := n } := { h with }

theorem connect (hdp : c.dp = .fsk ∨ c.dp = .psk) (v : Bool) : Underway { c with connect := v } :=
  { h with connected := fun _ => hdp }

end Sched.Underway

theorem State.Scheduled.underway {s : State} (h : s.Scheduled) : s.sched.Underway := by
  obtain ⟨hpend, hnext, hseized, hconnected⟩ := h
  exact ⟨fun _ => hnext, fun hyes => absurd hyes (by simp [hpend]), hseized, hconnected⟩

/-- With no request outstanding the scheduler is consistent. -/
theorem Sched.Underway.scheduled {s : State} (h : s.sched.Underway) (hpend : s.sched.pend = false) : s.Scheduled :=
  ⟨hpend, h.settled hpend, h.seized, h.connected⟩

/-! ### The turns of the datapumps (R295 to R300) -/

/-- Datapump `d` is active, and its block under way. -/
def State.Runs (d : Datapump) (s : State) : Prop := s.sched.dp = d ∧ s.sched.Underway

theorem State.Runs.of_sched {d : Datapump} {s t : State} (h : s.Runs d) (ht : t.sched = s.sched) : t.Runs d := by
  rwa [State.Runs, ht]

/-- Any request of an active datapump, with whatever else it writes. -/
theorem State.Runs.request {d : Datapump} {s t : State} (h : s.Runs d) (hd : d ≠ .none) {x : Target}
    (ht : t.sched = { s.sched with next := x, pend := true }) : t.Runs d := by
  obtain ⟨hdp, hs⟩ := h
  rw [State.Runs, ht]
  exact ⟨hdp, hs.request (hdp.trans_ne hd) x⟩

/-- A fetch requests the detector or leaves the scheduler alone (42_dtmf_dialer.md R150, R151). -/
theorem dlFetch_sched (s : State) : (dlFetch s).sched = s.sched ∨
    (dlFetch s).sched = { s.sched with next := .dp .detector, pend := true } := by
  unfold dlFetch
  split
  · exact .inr rfl
  · unfold dlToken
    split
    · exact .inl rfl
    · split
      · exact .inl rfl
      · exact .inr rfl

theorem dlFetch_runs {s : State} (h : s.Runs .dialer) : (dlFetch s).Runs .dialer := by
  rcases dlFetch_sched s with hkept | hrequest
  · exact h.of_sched hkept
  · exact h.request nofun hrequest

theorem detStep_sched (x : Int) (s : State) : (detStep x s).2.sched = s.sched :=
  (detStep_outsideScheduler x s).sched

theorem dialerWaitTurn_runs (i : Nat) (s : State) (h : s.Runs .dialer) : (dialerWaitTurn i s).2.Runs .dialer := by
  have hstep := h.of_sched (detStep_sched (inSample i s) s)
  unfold dialerWaitTurn
  dsimp only
  split
  · exact dlFetch_runs hstep
  · split
    · exact hstep
    · exact hstep

theorem dialerToneTurn_runs (i : Nat) (s : State) (h : s.Runs .dialer) : (dialerToneTurn i s).2.Runs .dialer := by
  unfold dialerToneTurn
  split
  · exact h
  · exact h.of_sched (dtmfSample_outsideScheduler s).sched

theorem dialerProcess_runs (n : Nat) (s : State) (h : s.Runs .dialer) : (dialerProcess n s).2.Runs .dialer := by
  unfold dialerProcess
  split
  · exact h
  · exact sampleLoop_inv _ _ dialerWaitTurn_runs n 0 s h
  · split
    · exact dlFetch_runs h
    · exact sampleLoop_inv _ _ dialerToneTurn_runs n 0 s h

theorem detectorTurn_runs (i : Nat) (s : State) (h : s.Runs .detector) : (detectorTurn i s).2.Runs .detector := by
  have hstep := h.of_sched (detStep_sched (inSample i s) s)
  unfold detectorTurn
  dsimp only
  split
  · exact hstep.request nofun rfl
  · split
    · exact hstep.request nofun rfl
    · exact hstep

theorem lineTimer_runs {d : Datapump} {s t : State} (h : s.Runs d) (ht : lineTimer s = some t) : t.Runs d := by
  obtain ⟨n, rfl⟩ := lineTimer_frame ht
  exact ⟨h.1, h.2.timed n⟩

theorem setConnect_runs {d : Datapump} {s : State} (h : s.Runs d) (hd : d = .fsk ∨ d = .psk) (v : Bool) :
    (setConnect v s).Runs d :=
  ⟨h.1, h.2.connect (h.1.symm ▸ hd) v⟩

theorem fskSample_sched (i : Nat) (s : State) : (fskSample i s).2.sched = s.sched :=
  (fskDem_outsideScheduler (inSample i s) (setOut i (fskMod s).1 (fskMod s).2)).sched.trans
    (fskMod_outsideScheduler s).sched

theorem pskSample_sched (i : Nat) (s : State) : (pskSample i s).2.sched = s.sched :=
  (pskDem_outsideScheduler (inSample i s) (setOut i (pskMod s).1 (pskMod s).2)).sched.trans
    (pskMod_outsideScheduler s).sched

theorem fskEvent_runs (ev : CarrierEvent) {s : State} (h : s.Runs .fsk) : (fskEvent ev s).2.Runs .fsk := by
  cases ev with
  | none => exact h
  | cd => exact setConnect_runs h (.inl rfl) true
  | lost => exact (setConnect_runs h (.inl rfl) false).request nofun rfl

theorem fskTurn_runs (i : Nat) (s : State) (h : s.Runs .fsk) : (fskTurn i s).2.Runs .fsk := by
  unfold fskTurn
  split
  · exact h.request nofun rfl
  · exact fskEvent_runs _ ((lineTimer_runs h ‹_›).of_sched (fskSample_sched i _))

theorem pskEvent_runs (ev : NegEvent) {s : State} (h : s.Runs .psk) : (pskEvent ev s).Runs .psk := by
  cases ev with
  | none => exact h
  | scr => exact h
  | data => exact setConnect_runs h (.inr rfl) true
  | fail => exact h

theorem pskTurn_runs (i : Nat) (s : State) (h : s.Runs .psk) : (pskTurn i s).2.Runs .psk := by
  unfold pskTurn
  split
  · exact h.request nofun rfl
  · exact pskEvent_runs _ ((lineTimer_runs h ‹_›).of_sched (pskSample_sched i _))

/-- The samples of a block leave the scheduler under way (R295). -/
theorem dpProcess_underway (n : Nat) (s : State) (h : s.sched.Underway) : (dpProcess n s).2.sched.Underway := by
  unfold dpProcess
  split
  · exact h
  · exact (dialerProcess_runs n s ⟨‹_›, h⟩).2
  · exact (sampleLoop_inv _ _ detectorTurn_runs n 0 s ⟨‹_›, h⟩).2
  · exact (sampleLoop_inv _ _ fskTurn_runs n 0 s ⟨‹_›, h⟩).2
  · exact (sampleLoop_inv _ _ pskTurn_runs n 0 s ⟨‹_›, h⟩).2

/-! ### Switching (R294) -/

/-- A creation writes no register of the scheduler but the line timer (R293). -/
theorem create_sched {d : Datapump} {s u : State} (h : create (.dp d) s = some u) :
    ∃ n, u.sched = { s.sched with lt := n } := by
  cases d <;> cases h <;> exact ⟨_, rfl⟩

/-- A switch leaves the scheduler consistent, if the line is seized for a datapump it creates (R294, R311, R312). -/
theorem applySwitch_scheduled {s : State} (h : ∀ d, s.sched.next = .dp d → d ≠ .none → s.sched.offhook = true) :
    (applySwitch s).Scheduled := by
  rcases applySwitch_cases s with ⟨hnext, he⟩ | ⟨-, he⟩ | ⟨d, u, hnext, hcreate, he⟩ <;> rw [he]
  · exact ⟨rfl, hnext, by simp [switched], nofun⟩
  · exact ⟨rfl, rfl, by simp [switched, createFailed], nofun⟩
  · have hd : d ≠ .none := by
      rintro rfl
      cases hcreate
    obtain ⟨n, hsched⟩ := create_sched hcreate
    exact ⟨rfl, by simpa [switched, activate, hsched] using hnext,
      by simp [switched, activate, hsched, h d hnext hd, hd], nofun⟩

/-- The end of a block applies the request there is (R296). -/
theorem process_scheduled (n : Nat) (s : State) (h : s.Scheduled) : (process n s).after.Scheduled := by
  obtain ⟨m, hfill⟩ := zeroFill_frame (n - (dpProcess n s).1) (dpProcess n s).1 (dpProcess n s).2
  have hblock : State.sched { (dpProcess n s).2 with outbuf := m } |>.Underway := dpProcess_underway n s h.underway
  unfold process
  dsimp only
  rw [hfill]
  split
  · rename_i hpend
    exact applySwitch_scheduled fun _ _ _ => hblock.seized.2 (hblock.requested hpend)
  · rename_i hpend
    exact hblock.scheduled (eq_false_of_ne_true hpend)

/-! ### The commands and the step -/

/-- From `s` to `t` the scheduler stays consistent. -/
structure KeepsScheduled (s t : State) : Prop where
  scheduled : s.Scheduled → t.Scheduled := by exact id

theorem keepsScheduled_ignoresAnswer : IgnoresAnswer KeepsScheduled where
  refl _ := {}
  resp _ _ _ h := ⟨h.scheduled⟩
  error _ _ h := ⟨h.scheduled⟩

theorem KeepsScheduled.of_sched {s t : State} (h : t.sched = s.sched) : KeepsScheduled s t :=
  ⟨fun hs => by rwa [State.Scheduled, h]⟩

theorem execTxch_keepsScheduled (b : BitVec 16) (s : State) : EndsIn (KeepsScheduled s) (execTxch b s) := by
  have hR := keepsScheduled_ignoresAnswer
  unfold execTxch
  split
  · exact hR.done _ {}
  · exact hR.raise _ s

theorem execRxch_keepsScheduled (s : State) : EndsIn (KeepsScheduled s) (execRxch s) := by
  have hR := keepsScheduled_ignoresAnswer
  unfold execRxch
  split
  · exact hR.done _ {}
  · exact hR.done _ {}

theorem reset_keepsScheduled (s : State) (port : List HostInput) :
    KeepsScheduled s { State.reset with port := port } := by
  have hreset : State.reset.Scheduled := by decide
  exact ⟨fun _ => hreset⟩

/-- Every command that is not direct keeps the scheduler consistent: the calls and the blocks by their switch, RESET by
the reset values, and the others because they do not write it. -/
theorem exec_keepsScheduled_of_not_direct {i : Instr} (hi : isDirect i = false) (s : State) :
    EndsIn (KeepsScheduled s) (exec i s) := by
  have hR := keepsScheduled_ignoresAnswer
  cases i
  case reset => exact hR.done _ (reset_keepsScheduled s s.port)
  case orig => exact hR.direct (hR.done _ ⟨fun _ => applySwitch_scheduled fun _ _ _ => rfl⟩)
  case answ => exact hR.direct (hR.done _ ⟨fun _ => applySwitch_scheduled fun _ _ _ => rfl⟩)
  case hup =>
    exact hR.done _ ⟨fun _ => applySwitch_scheduled fun d hnext hd => by cases hnext; exact absurd rfl hd⟩
  case proc b => exact hR.inRange fun n _ => hR.done _ ⟨process_scheduled n s⟩
  case step b => exact hR.done _ ⟨process_scheduled 1 (setIn 0 b s)⟩
  case nop | rdst | rdev | wrin | rdout | detr | mape | mapd | ffst | ffcl => exact hR.done _ {}
  case wrs | rds | rdc => exact hR.inRange fun _ _ => hR.done _ {}
  case wrc a b => exact endsIn_ite (hR.raise _ s) (hR.inRange fun _ _ => hR.done _ {})
  case dialc b => exact endsIn_ite (hR.raise _ s) (endsIn_ite (hR.raise _ s) (hR.done _ {}))
  case dialx => exact endsIn_ite (hR.raise _ s) (hR.done _ {})
  case txch b => exact execTxch_keepsScheduled b s
  case rxch => exact execRxch_keepsScheduled s
  all_goals cases hi

/-- Every command keeps the scheduler consistent. -/
theorem exec_keepsScheduled (i : Instr) (s : State) : EndsIn (KeepsScheduled s) (exec i s) := by
  intro t ht
  cases hi : isDirect i with
  | true => exact .of_sched (exec_outsideScheduler hi s t ht).sched
  | false => exact exec_keepsScheduled_of_not_direct hi s t ht

/-- Settles O11: what every command keeps of the scheduler, every step keeps. -/
theorem schedulerStaysConsistent : Obligations.SchedulerStaysConsistent := by
  unfold Obligations.SchedulerStaysConsistent
  exact fun s t hs ht => (step_endsIn keepsScheduled_ignoresAnswer (fun _ _ _ h k => ⟨k.scheduled ∘ h.scheduled⟩)
    (fun _ _ => {}) reset_keepsScheduled exec_keepsScheduled s t ht).scheduled hs

end Sys2Proof.Machine
end

section
/-! HostCommands.lean: the register commands, the call commands, the dial string and the sample cells
(48_scheduler_host.md R301 to R304, R307 to R310, R312 to R315). -/

namespace Sys2Proof.Machine

/-! ### The S registers (R301, R302) -/

/-- WRS on a register it names (R301). -/
theorem exec_wrs {a : BitVec 8} {i : Fin 16} (ha : a.toNat = i.val) (b : BitVec 16) (s : State) :
    exec (.wrs a b) s = .next { s with sreg := s.sreg.set i.val (b.setWidth 8) i.isLt, resp := some 0 } := by
  show execWrs a b s = _
  rw [execWrs, sOperand_val i a ha, inRange_some]
  rfl

/-- RDS on a register it names (R302). -/
theorem exec_rds {a : BitVec 8} {i : Fin 16} (ha : a.toNat = i.val) (s : State) :
    exec (.rds a) s = .next { s with resp := some (s.sreg[i].setWidth 32) } := by
  show execRds a s = _
  rw [execRds, sOperand_val i a ha, inRange_some, done_eq_setWidth, setWidth_value _ (by decide)]

/-- WRS and RDS have no BUSY row, and a RANGE row above 15 (60_exceptions.md R351). -/
theorem sRegister_range {a : BitVec 8} (ha : 15 < a.toNat) (b : BitVec 16) (s : State) :
    exec (.wrs a b) s = errorAnswer .range s ∧ exec (.rds a) s = errorAnswer .range s := by
  have hrange {i : Instr} (hi : (∃ b, i = .wrs a b) ∨ i = .rds a) : failsRange i := .inr (.inl ⟨a, ha, hi⟩)
  exact ⟨exec_of_failsRange (by simp [failsBusy, refusedWhileActive, isDirect]) (hrange (.inl ⟨b, rfl⟩)),
    exec_of_failsRange (by simp [failsBusy, refusedWhileActive, isDirect]) (hrange (.inr rfl))⟩

/-- Settles O20: the RANGE row of the two commands, and the register they name. -/
theorem sRegisterCommands : Obligations.SRegisterCommands := by
  unfold Obligations.SRegisterCommands
  exact fun a b s => ⟨fun ha => sRegister_range ha b s, fun i ha => ⟨exec_wrs ha b s, exec_rds ha s⟩⟩

/-! ### The control registers (R303, R304) -/

/-- WRC is BUSY while a datapump is active, but for IEN (R303). -/
theorem failsBusy_wrc_iff (a : BitVec 8) (b : BitVec 16) (s : State) :
    failsBusy (.wrc a b) s ↔ a ≠ 1 ∧ s.sched.dp ≠ .none := by
  simp [failsBusy, refusedWhileActive, isDirect]

/-- Past its two checks WRC is the write (R303). -/
theorem exec_wrc {a : BitVec 8} {s : State} {r : ControlReg} (hbusy : a = 1 ∨ s.sched.dp = .none)
    (hr : ctlOperand a = some r) (b : BitVec 16) :
    exec (.wrc a b) s = .next { s with ctl := writeControl r b s.ctl, resp := some 0 } := by
  have hpass : ¬ (a ≠ 1 ∧ s.sched.dp ≠ .none) := by tauto
  show execWrc a b s = _
  rw [execWrc, if_neg hpass, hr, inRange_some]
  rfl

/-- Past its check RDC is the read (R304). -/
theorem exec_rdc {a : BitVec 8} {r : ControlReg} (hr : ctlOperand a = some r) (s : State) :
    exec (.rdc a) s = .next { s with resp := some ((readControl r s.ctl).setWidth 32) } := by
  show execRdc a s = _
  rw [execRdc, hr, inRange_some, done_eq_setWidth]

/-- An index above 6 names no control register (60_exceptions.md R351). -/
theorem failsRange_wrc_rdc {a : BitVec 8} (ha : 6 < a.toNat) {i : Instr} (hi : (∃ b, i = .wrc a b) ∨ i = .rdc a) :
    failsRange i :=
  .inr (.inr (.inl ⟨a, ha, hi⟩))

/-- The control registers in the order of their indices (10_state.md R34). -/
theorem ctlOperand_val (a : BitVec 8) : (a.toNat = 0 → ctlOperand a = some .mode) ∧
    (a.toNat = 1 → ctlOperand a = some .ien) ∧ (a.toNat = 2 → ctlOperand a = some .detmask) ∧
    (∀ k : Fin 4, a.toNat = 3 + k.val → ctlOperand a = some (.detfrq k)) := by
  refine ⟨fun h => ?_, fun h => ?_, fun h => ?_, fun k h => ?_⟩
  · rw [ctlOperand, h]; rfl
  · rw [ctlOperand, h]; rfl
  · rw [ctlOperand, h]; rfl
  · rw [ctlOperand, h]
    fin_cases k <;> rfl

/-- Settles O21: the rows of the error table, and the register of each index. -/
theorem controlRegisterCommands : Obligations.ControlRegisterCommands := by
  unfold Obligations.ControlRegisterCommands
  intro a b s
  obtain ⟨hmode, hien, hdetmask, hdetfrq⟩ := ctlOperand_val a
  have hread {r : ControlReg} (hr : ctlOperand a = some r) := exec_rdc hr s
  refine ⟨fun ha hactive => exec_of_failsBusy ((failsBusy_wrc_iff a b s).2 ⟨ha, hactive⟩), fun hidle ha => ?_,
    fun ha => ?_, fun hidle ha => exec_wrc (.inr hidle) (hmode ha) b,
    fun ha => exec_wrc (.inl (BitVec.eq_of_toNat_eq ha)) (hien ha) b,
    fun hidle ha => exec_wrc (.inr hidle) (hdetmask ha) b,
    fun k hidle ha => exec_wrc (.inr hidle) (hdetfrq k ha) b, fun ha => ?_, fun ha => ?_, fun ha => ?_,
    fun k ha => ?_⟩
  · exact exec_of_failsRange (fun hb => ((failsBusy_wrc_iff a b s).1 hb).2 hidle)
      (failsRange_wrc_rdc ha (.inl ⟨b, rfl⟩))
  · exact exec_of_failsRange (by simp [failsBusy, refusedWhileActive, isDirect]) (failsRange_wrc_rdc ha (.inr rfl))
  · rw [hread (hmode ha), readControl, setWidth_value _ (by decide)]
  · rw [hread (hien ha), readControl, setWidth_value _ (by decide)]
  · rw [hread (hdetmask ha), readControl, setWidth_value _ (by decide)]
  · rw [hread (hdetfrq k ha), readControl, setWidth_value _ (by decide)]

/-! ### NOP, RESET and HUP (R307, R308, R313) -/

/-- A switch to NONE releases the line (R294). -/
theorem applySwitch_released {s : State} (h : s.sched.next = .dp .none) :
    applySwitch s = { s with evt := s.evt ||| 0x200, sched := s.sched.released } := by
  rw [applySwitch_none h, ← switch_mask, Sched.released, ← h]
  rfl

/-- Settles O23: no effect, the reset values, and the switch to NONE. -/
theorem nopResetAndHangUp : Obligations.NopResetAndHangUp := by
  unfold Obligations.NopResetAndHangUp
  refine fun s => ⟨rfl, ⟨s.port, rfl⟩, ?_⟩
  show done 0 (applySwitch (request (.dp .none) s)) = _
  rw [applySwitch_released rfl]
  rfl

/-! ### ANSW (R312) -/

/-- The creation of the FSK modem in the direction of the call (R293). -/
theorem create_fsk (s : State) : create (.dp .fsk) s = some { bqInit (fskInit s.sched.dir s) with
    sched := { s.sched with lt := s.sreg[7].toNat * 8000 } } := rfl

/-- The creation of the PSK modem in the direction of the call (R293). -/
theorem create_psk (s : State) : create (.dp .psk) s = some { bqInit (pskInit s.sched.dir s) with
    sched := { s.sched with lt := s.sreg[7].toNat * 8000 } } := rfl

/-- A switch to the FSK modem (R294). -/
theorem applySwitch_fsk {s : State} (h : s.sched.next = .dp .fsk) :
    applySwitch s = { bqInit (fskInit s.sched.dir s) with
      evt := s.evt ||| 0x200
      sched := ⟨.fsk, .dp .fsk, false, s.sched.dir, false, s.sched.offhook, s.sreg[7].toNat * 8000⟩ } := by
  rw [applySwitch_created h (create_fsk s), ← switch_mask, ← h]
  rfl

/-- A switch to the PSK modem (R294). -/
theorem applySwitch_psk {s : State} (h : s.sched.next = .dp .psk) :
    applySwitch s = { bqInit (pskInit s.sched.dir s) with
      evt := s.evt ||| 0x200
      sched := ⟨.psk, .dp .psk, false, s.sched.dir, false, s.sched.offhook, s.sreg[7].toNat * 8000⟩ } := by
  rw [applySwitch_created h (create_psk s), ← switch_mask, ← h]
  rfl

/-- A switch to a modem MODE does not name fails and releases the line (R294). -/
theorem applySwitch_failed {s : State} (h : s.sched.next = .invalid) :
    applySwitch s = { s with evt := s.evt ||| 0x220, sched := s.sched.released } := by
  have hmask : (0x220 : BitVec 11) = Event.createfail.mask ||| Event.switch.mask := by decide
  rw [applySwitch_invalid h, hmask, ← BitVec.or_assoc]
  rfl

/-- The modems of MODE 0 to 3 (R292). -/
theorem modemOf_val :
    modemOf 0 = .dp .fsk ∧ modemOf 1 = .dp .psk ∧ modemOf 2 = .invalid ∧ modemOf 3 = .invalid := by
  decide

/-- The line seized by the answerer and the modem of MODE requested (R312). -/
def State.answered (s : State) : State :=
  request (modemOf s.ctl.mode) { s with sched := { s.sched with dir := .answerer, offhook := true } }

/-- ANSW in idle mode switches to the modem of MODE and answers DP (R312). -/
theorem exec_answ {s t : State} (hidle : s.sched.dp = .none) (ht : applySwitch s.answered = t) :
    exec .answ s = .next { t with resp := some (t.sched.dp.id.setWidth 32) } := by
  subst ht
  rw [← setWidth_value _ (by decide), ← done_eq_setWidth]
  exact direct_idle s _ hidle

/-- Settles O26: the switch to the modem of each MODE. -/
theorem answerStartsTheSelectedModem : Obligations.AnswerStartsTheSelectedModem := by
  unfold Obligations.AnswerStartsTheSelectedModem
  obtain ⟨hfsk, hpsk, htwo, hthree⟩ := modemOf_val
  refine fun s => ⟨direct_busy s _, fun hidle hmode => ?_, fun hidle hmode => ?_, fun hidle hmode => ?_⟩
  · exact ⟨_, exec_answ hidle (applySwitch_fsk (by rw [State.answered, hmode, hfsk]; rfl)), rfl⟩
  · exact ⟨_, exec_answ hidle (applySwitch_psk (by rw [State.answered, hmode, hpsk]; rfl)), rfl⟩
  · refine ⟨_, exec_answ hidle (applySwitch_failed ?_), ?_⟩
    · rw [State.answered]
      rcases hmode with h | h <;> rw [h]
      · rw [htwo]; rfl
      · rw [hthree]; rfl
    · rfl

/-! ### The dial string (R309, R310) -/

/-- DIALC and DIALX are BUSY under the dialer. -/
theorem failsBusy_dial_iff {i : Instr} (hi : (∃ b, i = .dialc b) ∨ i = .dialx) (s : State) :
    failsBusy i s ↔ s.sched.dp = .dialer := by
  rcases hi with ⟨b, rfl⟩ | rfl <;> simp [failsBusy, refusedWhileActive, isDirect]

/-- DIALC with room appends its byte (R309). -/
theorem exec_dialc (b : BitVec 16) {s : State} (hdp : s.sched.dp ≠ .dialer) (hroom : s.dial.diallen ≠ 64) :
    exec (.dialc b) s = .next { s with
      dial := { s.dial with
        dialstr := s.dial.dialstr.write s.dial.diallen (b.setWidth 8)
        diallen := s.dial.diallen + 1 }
      resp := some ((BitVec.ofNat 24 (s.dial.diallen + 1)).setWidth 32) } :=
  ((if_neg hdp).trans (if_neg hroom)).trans (done_eq_setWidth _ _)

/-- Settles O27: the checks, and the cell a byte goes to. -/
theorem dialStringCommands : Obligations.DialStringCommands := by
  unfold Obligations.DialStringCommands
  intro b s hmem
  obtain ⟨hstr, -, -, -, -, hlen⟩ := hmem
  refine ⟨fun hdp => ⟨exec_of_failsBusy ((failsBusy_dial_iff (.inl ⟨b, rfl⟩) s).2 hdp),
    exec_of_failsBusy ((failsBusy_dial_iff (.inr rfl) s).2 hdp)⟩, fun hdp => ⟨if_neg hdp, fun hfull => ?_,
    fun hroom => ⟨_, exec_dialc b hdp hroom, ?_, ?_, fun j hj => ?_⟩⟩⟩
  · rw [← raise_eq_errorAnswer]
    exact (if_neg hdp).trans (if_pos hfull)
  · have hvalue : (BitVec.ofNat 24 (s.dial.diallen + 1)).setWidth 32 = BitVec.ofNat 32 (s.dial.diallen + 1) := by
      simp only [Param.dialMax] at hlen
      apply BitVec.eq_of_toNat_eq
      simp only [BitVec.toNat_setWidth, BitVec.toNat_ofNat]
      omega
    rw [hvalue]
  · exact Memory.read_write_same _ hstr _ _
  · exact Memory.read_write_other _ _ _ _ hj

/-! ### The sample cells (R314, R315) -/

/-- Settles O28: the write of a cell, and the read of one. -/
theorem sampleCellCommands : Obligations.SampleCellCommands := by
  unfold Obligations.SampleCellCommands
  intro a b s hmem
  obtain ⟨-, -, -, hin, -, -⟩ := hmem
  refine ⟨⟨_, rfl, rfl, Memory.read_write_same _ hin _ _, fun j hj => Memory.read_write_other _ _ _ _ hj⟩, ?_⟩
  rw [← setWidth_value _ (by decide), ← done_eq_setWidth]
  rfl

end Sys2Proof.Machine
end

section
/-! UnitSamples.lean: one sample of a unit neither reads nor writes the scheduler's registers, the sample buffers and
the response, and the event it returns is the change of FCD or of PH (43_symbol_timing_fsk.md R177 to R179,
44_psk_modem.md R198, R206, 46_psk_negotiation.md R242). -/

namespace Sys2Proof.Machine

/-! ### What is outside the units -/

/-- `s` with other registers of the scheduler, other sample buffers and another response. -/
def State.withOuter (c : Sched) (i o : Memory 16) (r : Option Word) (s : State) : State :=
  { s with sched := c, inbuf := i, outbuf := o, resp := r }

section
variable (c : Sched) (i o : Memory 16) (r : Option Word)

theorem detStep_withOuter (x : Int) (s : State) :
    detStep x (s.withOuter c i o r) = ((detStep x s).1, (detStep x s).2.withOuter c i o r) := by
  rcases Nat.eq_zero_or_pos s.det.tmo with ht | ht
  · rw [detStep_timeout x s ht]
    exact detStep_timeout x (s.withOuter c i o r) ht
  · by_cases hw : s.det.wcnt = 255
    · rw [detStep_of_wcnt_eq ht hw]
      exact detStep_of_wcnt_eq (s := s.withOuter c i o r) ht hw
    · rw [detStep_of_wcnt_ne ht hw]
      exact detStep_of_wcnt_ne (s := s.withOuter c i o r) ht hw

theorem bqTxGet_withOuter (n : Nat) (s : State) :
    bqTxGet n (s.withOuter c i o r) = ((bqTxGet n s).1, (bqTxGet n s).2.withOuter c i o r) := by
  obtain ⟨hbits, hbq, hfifo⟩ := bqTxGet_sameTransmit n (s := s.withOuter c i o r) (t := s) ⟨rfl, rfl⟩
  refine Prod.ext hbits ?_
  rw [bqTxGet_eq n s, bqTxGet_eq n (s.withOuter c i o r), hbq, hfifo]
  rfl

theorem fskPull_withOuter (s : State) : fskPull (s.withOuter c i o r) = (fskPull s).withOuter c i o r := by
  rcases Nat.lt_or_ge s.fsk.ftxacc 8000 with h | h
  · rw [fskPull_of_lt h]
    exact fskPull_of_lt (s := s.withOuter c i o r) h
  · rw [fskPull_of_ge h, fskPull_of_ge (s := s.withOuter c i o r) h, bqTxGet_withOuter]
    rfl

theorem fskMod_withOuter (s : State) :
    fskMod (s.withOuter c i o r) = ((fskMod s).1, (fskMod s).2.withOuter c i o r) := by
  rw [fskMod_eq, fskMod_eq, fskPull_withOuter]
  rfl

theorem rxDeliver_withOuter (fr : BitVec 10) (s : State) :
    rxDeliver fr (s.withOuter c i o r) = (rxDeliver fr s).withOuter c i o r := by
  by_cases hfull : s.rxfifo.contents.length = 255
  · rw [rxDeliver_of_full fr hfull]
    exact rxDeliver_of_full fr (s := s.withOuter c i o r) hfull
  · rw [rxDeliver_of_room fr hfull]
    exact rxDeliver_of_room fr (s := s.withOuter c i o r) hfull

theorem rxBit_withOuter (bit : Bool) (s : State) :
    rxBit bit (s.withOuter c i o r) = ((rxBit bit s).1, (rxBit bit s).2.withOuter c i o r) := by
  have hbq : (s.withOuter c i o r).bq = s.bq := rfl
  rw [rxBit, rxBit, hbq]
  cases rxAppend bit s.bq with
  | mk fr q =>
    cases fr with
    | none => rfl
    | some fr => exact congrArg (Prod.mk 1) (rxDeliver_withOuter c i o r fr { s with bq := q })

theorem bqRxPut_withOuter (n : Nat) (v : BitVec 16) (s : State) :
    bqRxPut n v (s.withOuter c i o r) = ((bqRxPut n v s).1, (bqRxPut n v s).2.withOuter c i o r) := by
  induction n generalizing s with
  | zero => rfl
  | succ j ih => simp only [bqRxPut, rxBit_withOuter, ih]

theorem fskDem_withOuter (x : Int) (s : State) : fskDem x (s.withOuter c i o r) =
    ((fskDem x s).1, (fskDem x s).2.1, (fskDem x s).2.2.withOuter c i o r) := by
  have hverdict : fskVerdict x (s.withOuter c i o r) = fskVerdict x s := rfl
  have hheard : fskHeard x (s.withOuter c i o r) = (fskHeard x s).withOuter c i o r := rfl
  have htcur : ((fskHeard x s).withOuter c i o r).tim = (fskHeard x s).tim := rfl
  have hfsk : ((fskHeard x s).withOuter c i o r).fsk = (fskHeard x s).fsk := rfl
  rw [fskDem_eq, fskDem_eq, hverdict, hheard, htcur, hfsk, bqRxPut_withOuter]
  congr 2
  exact (apply_ite (State.withOuter c i o r) _ _ _).symm

theorem pskGetsym_withOuter (s : State) :
    pskGetsym (s.withOuter c i o r) = ((pskGetsym s).1, (pskGetsym s).2.withOuter c i o r) := by
  have htxm : (s.withOuter c i o r).neg = s.neg := rfl
  have hscr : (s.withOuter c i o r).scr = s.scr := rfl
  rw [pskGetsym, pskGetsym, htxm, hscr, bqTxGet_withOuter]
  split
  · rfl
  · rfl
  · split
    · rfl
    · rfl

theorem pskPull_withOuter (s : State) : pskPull (s.withOuter c i o r) = (pskPull s).withOuter c i o r := by
  have hget := pskGetsym_withOuter c i o r { s with psk := { s.psk with psymacc := s.psk.psymacc - Param.fs } }
  by_cases h : Param.fs ≤ s.psk.psymacc
  · have hpull : pskPull s = _ := if_pos h
    have hpull' : pskPull (s.withOuter c i o r) = _ := if_pos h
    rw [hpull, hpull']
    exact congrArg (fun g => setPhase 10 (g.2.osc[(10 : Fin 12)].phase + (mapQ g.1).setWidth 12 * 1024) g.2) hget
  · have hpull : pskPull s = s := if_neg h
    rw [hpull]
    exact if_neg h

theorem pskMod_withOuter (s : State) :
    pskMod (s.withOuter c i o r) = ((pskMod s).1, (pskMod s).2.withOuter c i o r) := by
  rw [pskMod, pskMod, pskPull_withOuter]
  rfl

theorem negPut_withOuter (sym : BitVec 2) (s : State) :
    negPut sym (s.withOuter c i o r) = ((negPut sym s).1, (negPut sym s).2.withOuter c i o r) := by
  have hsame : (s.withOuter c i o r).neg = s.neg := rfl
  cases hph : s.neg.ph with
  | raw => simp only [negPut, hsame, hph]; rfl
  | scrambled => simp only [negPut, hsame, hph]; rfl
  | data =>
    rw [negPut_data sym hph, negPut_data sym (s := s.withOuter c i o r) hph]
    exact congrArg (Prod.mk NegEvent.none) (congrArg Prod.snd
      (bqRxPut_withOuter c i o r 2 _ { s with scr := (scrDecDibit sym s.scr).2 }))
  | failed =>
    rw [negPut_failed sym hph]
    exact negPut_failed sym (s := s.withOuter c i o r) hph

theorem pskDem_withOuter (x : Int) (s : State) : pskDem x (s.withOuter c i o r) =
    ((pskDem x s).1, (pskDem x s).2.1, (pskDem x s).2.2.withOuter c i o r) := by
  have hemits : pskEmits x (s.withOuter c i o r) = pskEmits x s := rfl
  have hheard : pskHeard x (s.withOuter c i o r) = (pskHeard x s).withOuter c i o r := rfl
  have htim : ((pskHeard x s).withOuter c i o r).tim = (pskHeard x s).tim := rfl
  rw [pskDem_eq, pskDem_eq, hemits, hheard, htim, negPut_withOuter]
  cases pskEmits x s <;> rfl

end

/-! ### The events of a sample (R179, R242) -/

/-- CD and LOST are the changes of FCD that a sample makes (43_symbol_timing_fsk.md R179). -/
theorem fskDem_event (x : Int) (s : State) :
    ((fskDem x s).2.1 = .cd ↔ s.fsk.fcd = false ∧ (fskDem x s).2.2.fsk.fcd = true) ∧
    ((fskDem x s).2.1 = .lost ↔ s.fsk.fcd = true ∧ (fskDem x s).2.2.fsk.fcd = false) := by
  obtain ⟨-, -, hfsk⟩ := fskDem_answer x s
  rw [hfsk, fskDem_eq]
  exact carrierUpdate_event _ (fskShift x s).fsk

/-- DATA and FAIL are PH entering DATA and FAILED; PH else stays or enters SCRAMBLED (46_psk_negotiation.md R242). -/
theorem negPut_event (sym : BitVec 2) (s : State) :
    ((negPut sym s).1 = .data ↔ s.neg.ph ≠ .data ∧ (negPut sym s).2.neg.ph = .data) ∧
    ((negPut sym s).1 = .fail ↔ s.neg.ph ≠ .failed ∧ (negPut sym s).2.neg.ph = .failed) := by
  cases hph : s.neg.ph with
  | raw =>
    rw [negPut_raw hph (decide_eq_true_iff (p := sym = 0))]
    obtain ⟨hdata, hfail, -⟩ := negCount_event (decide (sym = 0)) rawRule s.psk.pdir s.neg (.inl hph)
    simpa [State.counts] using ⟨hdata, hfail⟩
  | scrambled =>
    rw [negPut_scrambled hph (decide_eq_true_iff (p := (scrDecDibit sym s.scr).1 = 3))]
    obtain ⟨hdata, hfail, -⟩ :=
      negCount_event (decide ((scrDecDibit sym s.scr).1 = 3)) scrRule s.psk.pdir s.neg (.inr hph)
    simpa [State.counts] using ⟨hdata, hfail⟩
  | data =>
    rw [negPut_data sym hph, bqRxPut_neg]
    simp [hph]
  | failed =>
    rw [negPut_failed sym hph]
    simp [hph]

/-- The same of a sample: without an emitted symbol PH stays (R206). -/
theorem pskDem_event (x : Int) (s : State) :
    ((pskDem x s).2.1 = .data ↔ s.neg.ph ≠ .data ∧ (pskDem x s).2.2.neg.ph = .data) ∧
    ((pskDem x s).2.1 = .fail ↔ s.neg.ph ≠ .failed ∧ (pskDem x s).2.2.neg.ph = .failed) := by
  have hheard : (pskHeard x s).neg = s.neg := rfl
  rw [pskDem_eq]
  cases pskEmits x s with
  | true => exact hheard ▸ negPut_event _ (pskHeard x s)
  | false => simp [hheard]

/-- The modulator leaves FCD alone (43_symbol_timing_fsk.md R177). -/
theorem fskMod_fcd (s : State) : (fskMod s).2.fsk.fcd = s.fsk.fcd := by
  obtain ⟨b, a, hpull, -⟩ := fskPull_fsk s
  have hmod : (fskMod s).2.fsk.fcd = (fskPull s).fsk.fcd := rfl
  rw [hmod, hpull]

/-- The modulator leaves PH alone (44_psk_modem.md R198). -/
theorem pskMod_ph (s : State) : (pskMod s).2.neg.ph = s.neg.ph := by
  obtain ⟨o, p, h, c, b, n, x, he⟩ := pskMod_frame s
  rw [he]

end Sys2Proof.Machine
end

section
/-! Blocks.lean: PROC and STEP as a block, its switch and its response (48_scheduler_host.md R295, R296, R316,
R317). -/

namespace Sys2Proof.Machine

/-! ### The responses of PROC and STEP (R316, R317) -/

/-- PROC's response: p in bits 11:0, sw in bit 12, DP from bit 16 on (R316). -/
def procResponse (p : Nat) (sw : Bool) (d : Datapump) : Word :=
  BitVec.ofNat 32 p ||| ((BitVec.ofBool sw).setWidth 32 <<< 12) ||| (d.id.setWidth 32 <<< 16)

/-- STEP's response: the sample in bits 15:0, p in bit 16, sw in bit 17 (R317). -/
def stepResponse (p : Nat) (sw : Bool) (y : BitVec 16) : Word :=
  y.setWidth 32 ||| ((0#6 ++ BitVec.ofBool sw ++ BitVec.ofNat 1 p).setWidth 32 <<< 16)

theorem setWidth_procHeader : ∀ (d : BitVec 3) (sw : Bool),
    ((0#5 ++ d ++ 0#3 ++ BitVec.ofBool sw).setWidth 32 <<< 12 : Word) =
      ((BitVec.ofBool sw).setWidth 32 <<< 12) ||| (d.setWidth 32 <<< 16) := by
  decide

/-- The low twelve bits of PROC's response are p, bit 0 is that of p, and bit 12 is sw. -/
theorem procResponse_fields {p : Nat} (hp : p ≤ 256) (sw : Bool) (d : Datapump) :
    (procResponse p sw d).toNat % 4096 = p ∧ (procResponse p sw d).getLsbD 0 = p.testBit 0 ∧
      (procResponse p sw d).getLsbD 12 = sw := by
  have hlow : (procResponse p sw d).setWidth 12 = BitVec.ofNat 12 p := by
    ext i hi
    simp [procResponse]
  refine ⟨?_, ?_, ?_⟩
  · have htoNat := congrArg BitVec.toNat hlow
    simp only [BitVec.toNat_setWidth, BitVec.toNat_ofNat] at htoNat
    omega
  · have hlow : (BitVec.ofNat 32 p).getLsbD 0 = p.testBit 0 := by rw [BitVec.getLsbD_ofNat]; rfl
    rw [procResponse, BitVec.getLsbD_or, BitVec.getLsbD_or, hlow]
    simp
  · have hbit : p.testBit 12 = false := Nat.testBit_lt_two_pow (by omega)
    have hlow : (BitVec.ofNat 32 p).getLsbD 12 = false := by rw [BitVec.getLsbD_ofNat, hbit, Bool.and_false]
    rw [procResponse, BitVec.getLsbD_or, BitVec.getLsbD_or, hlow]
    simp

/-- The fields of STEP's response. -/
theorem stepResponse_fields {p : Nat} (hp : p ≤ 1) (sw : Bool) (y : BitVec 16) :
    (stepResponse p sw y).extractLsb' 0 16 = y ∧ (stepResponse p sw y).getLsbD 16 = decide (p = 1) ∧
      (stepResponse p sw y).getLsbD 17 = sw ∧ (stepResponse p sw y).extractLsb' 18 14 = 0 := by
  generalize hheader : (0#6 ++ BitVec.ofBool sw ++ BitVec.ofNat 1 p).setWidth 32 = h
  have hfields : h.getLsbD 0 = decide (p = 1) ∧ h.getLsbD 1 = sw ∧ h.extractLsb' 2 14 = 0 := by
    subst hheader
    interval_cases p <;> cases sw <;> decide
  obtain ⟨hp, hsw, hzero⟩ := hfields
  have hhigh (i : Nat) : (y.setWidth 32 ||| h <<< 16).getLsbD (16 + i) = (decide (16 + i < 32) && h.getLsbD i) := by
    simp
  simp only [stepResponse, hheader]
  refine ⟨?_, ?_, ?_, ?_⟩
  · ext i hi
    simp [hi]
    omega
  · rw [hhigh 0, hp]
    rfl
  · rw [hhigh 1, hsw]
    rfl
  · rw [← hzero]
    ext i hi
    have hi' : 16 + (2 + i) < 32 := by omega
    rw [BitVec.getElem_extractLsb', BitVec.getElem_extractLsb', show 18 + i = 16 + (2 + i) by omega, hhigh]
    simp [hi']

/-! ### A block and its switch (R296) -/

/-- A block before its switch: the datapump's samples, then the zero-fill. -/
def filled (n : Nat) (s : State) : State := zeroFill (n - (dpProcess n s).1) (dpProcess n s).1 (dpProcess n s).2

/-- A block is `filled` and the switch requested in it, if there is one. -/
theorem process_eq (n : Nat) (s : State) :
    process n s = ⟨(dpProcess n s).1, (filled n s).sched.pend, handOver (filled n s)⟩ := by
  have hprocess : process n s = if (filled n s).sched.pend then ⟨(dpProcess n s).1, true, applySwitch (filled n s)⟩
      else ⟨(dpProcess n s).1, false, filled n s⟩ := rfl
  rw [hprocess]
  cases hpend : (filled n s).sched.pend
  · rw [handOver_idle hpend]
    rfl
  · rw [handOver_pend hpend]
    rfl

/-- PROC with a legal count is a block and its response (R316). -/
theorem exec_proc {b : BitVec 16} (hb : 1 ≤ b.toNat ∧ b.toNat ≤ 256) (s : State) :
    exec (.proc b) s = .next { handOver (filled b.toNat s) with
      resp := some (procResponse (dpProcess b.toNat s).1 (filled b.toNat s).sched.pend
        (handOver (filled b.toNat s)).sched.dp) } := by
  have hp : (dpProcess b.toNat s).1 ≤ 256 := (dpProcess_count b.toNat s).trans hb.2
  show execProc b s = _
  rw [execProc, blockCountOperand_val b hb, inRange_some, process_eq]
  dsimp only
  rw [done_eq_setWidth, setWidth_procValue hp, setWidth_procHeader, ← BitVec.or_assoc]
  rfl

/-- STEP is a block of one sample and its response (R317). -/
theorem exec_step (b : BitVec 16) (s : State) :
    exec (.step b) s = .next { handOver (filled 1 (setIn 0 b s)) with
      resp := some (stepResponse (dpProcess 1 (setIn 0 b s)).1 (filled 1 (setIn 0 b s)).sched.pend
        ((handOver (filled 1 (setIn 0 b s))).outbuf.read 0)) } := by
  show execStep b s = _
  rw [execStep, process_eq]
  dsimp only
  rw [done_eq_setWidth, setWidth_append]
  rfl

/-- PROC has a RANGE row and no BUSY row (60_exceptions.md R351). -/
theorem exec_proc_range {b : BitVec 16} (hb : b.toNat < 1 ∨ 256 < b.toNat) (s : State) :
    exec (.proc b) s = errorAnswer .range s :=
  exec_of_failsRange (by simp [failsBusy, refusedWhileActive, isDirect])
    (.inr (.inr (.inr (.inl ⟨b, hb, rfl⟩))))

/-- Settles O30: both commands are the block of one sample. -/
theorem stepIsABlockOfOneSample : Obligations.StepIsABlockOfOneSample := by
  unfold Obligations.StepIsABlockOfOneSample
  intro b s
  have hp := dpProcess_count 1 (setIn 0 b s)
  obtain ⟨hout, hwp, hwsw, hzero⟩ := stepResponse_fields hp (filled 1 (setIn 0 b s)).sched.pend
    ((handOver (filled 1 (setIn 0 b s))).outbuf.read 0)
  obtain ⟨hrp, hrbit, hrsw⟩ := procResponse_fields (hp.trans (by decide)) (filled 1 (setIn 0 b s)).sched.pend
    (handOver (filled 1 (setIn 0 b s))).sched.dp
  refine ⟨_, _, _, exec_proc (b := 1) (by decide) (setIn 0 b s), rfl, exec_step b s, hout, hwp.trans ?_,
    hwsw.trans hrsw.symm, hzero, hrp.trans_le hp⟩
  have hone : ∀ p ≤ 1, decide (p = 1) = p.testBit 0 := by decide
  exact (hone _ hp).trans hrbit.symm

/-! ### What a block leaves alone (R296) -/

/-- A switch writes neither OUTBUF nor DIALLEN nor DIR (R294). -/
theorem applySwitch_keepsHost (s : State) : (applySwitch s).outbuf = s.outbuf ∧
    (applySwitch s).dial.diallen = s.dial.diallen ∧ (applySwitch s).sched.dir = s.sched.dir := by
  rcases applySwitch_cases s with ⟨-, he⟩ | ⟨-, he⟩ | ⟨d, u, -, hcreate, he⟩ <;> rw [he]
  · exact ⟨rfl, rfl, rfl⟩
  · exact ⟨rfl, rfl, rfl⟩
  · cases d <;> cases hcreate <;> exact ⟨rfl, rfl, rfl⟩

/-- After a switch no request is outstanding and CONNECT is 0 (R294). -/
theorem applySwitch_settled (s : State) :
    (applySwitch s).sched.pend = false ∧ (applySwitch s).sched.connect = false := by
  rcases applySwitch_cases s with ⟨-, he⟩ | ⟨-, he⟩ | ⟨d, u, -, -, he⟩ <;> rw [he] <;> exact ⟨rfl, rfl⟩

/-- The end of a block writes neither OUTBUF nor DIALLEN nor DIR. -/
theorem handOver_keepsHost (s : State) : (handOver s).outbuf = s.outbuf ∧
    (handOver s).dial.diallen = s.dial.diallen ∧ (handOver s).sched.dir = s.sched.dir := by
  cases hpend : s.sched.pend
  · rw [handOver_idle hpend]
    exact ⟨rfl, rfl, rfl⟩
  · rw [handOver_pend hpend]
    exact applySwitch_keepsHost s

/-- After a block no request is outstanding. -/
theorem handOver_settled (s : State) : (handOver s).sched.pend = false := by
  cases hpend : s.sched.pend
  · rw [handOver_idle hpend, hpend]
  · rw [handOver_pend hpend]
    exact (applySwitch_settled s).1

end Sys2Proof.Machine
end

section
/-! BlockSamples.lean: what PROC leaves alone, its zero-fill (48_scheduler_host.md R296), and the samples of a block in
index order (20_memory.md R70). -/

namespace Sys2Proof.Machine

/-! ### The cells a block writes (R295, R296) -/

/-- From `s` to `t` no cell of OUTBUF but `i` has changed. -/
def KeepsOtherCells (i : Nat) (s t : State) : Prop := ∀ j, j ≠ i → t.outbuf.read j = s.outbuf.read j

theorem KeepsOtherCells.of_outbuf {i : Nat} {s t : State} (h : t.outbuf = s.outbuf) : KeepsOtherCells i s t :=
  fun _ _ => by rw [h]

theorem KeepsOtherCells.of_write {i : Nat} {s t : State} {y : BitVec 16} (h : t.outbuf = s.outbuf.write i y) :
    KeepsOtherCells i s t :=
  fun j hj => by rw [h, Memory.read_write_other _ _ _ _ hj]

/-- A sample loop whose turns write their own cells leaves the cells from the end of the block on. -/
theorem sampleLoop_cells {turn : Nat → State → Turn × State} (h : ∀ i s, KeepsOtherCells i s (turn i s).2)
    (n : Nat) (s : State) {j : Nat} (hj : n ≤ j) : (sampleLoop turn n 0 s).2.outbuf.read j = s.outbuf.read j := by
  have hturn (i : Nat) (t u : State) (k : Turn) (hi : i < n) (ht : t.outbuf.read j = s.outbuf.read j)
      (he : turn i t = (k, u)) : u.outbuf.read j = s.outbuf.read j := by
    have hcell := h i t j (by omega)
    rw [he] at hcell
    exact hcell.trans ht
  exact sampleLoop_inv_at (fun _ t => t.outbuf.read j = s.outbuf.read j) (·.outbuf.read j = s.outbuf.read j) turn n
    (fun i t u => hturn i t u .stop) (fun i t u => hturn i t u .last) (fun i t u => hturn i t u .more) (fun _ h => h)
    n 0 s (Nat.zero_add n) rfl

theorem dialerWaitTurn_cells (i : Nat) (s : State) : KeepsOtherCells i s (dialerWaitTurn i s).2 := by
  have hstep := (detStep_outsideScheduler (inSample i s) s).outbuf
  unfold dialerWaitTurn
  dsimp only
  split
  · exact .of_outbuf ((dlFetch_outbuf _).trans hstep)
  · split
    · exact .of_write (congrArg (·.write i (lo16 0)) hstep)
    · exact .of_write (congrArg (·.write i (lo16 0)) hstep)

theorem dialerToneTurn_cells (i : Nat) (s : State) : KeepsOtherCells i s (dialerToneTurn i s).2 := by
  unfold dialerToneTurn
  split
  · exact .of_outbuf rfl
  · exact .of_write (congrArg (·.write i (lo16 (dtmfSample s).1)) (dtmfSample_outsideScheduler s).outbuf)

/-! ### A turn that takes one sample (R297 to R300) -/

/-- `s` with other sample buffers and another response. -/
def State.withBuffers (m o : Memory 16) (r : Option Word) (s : State) : State := s.withOuter s.sched m o r

/-- The output cells after a turn at sample `i`: the sample, if the turn has produced one. -/
def placed (i : Nat) : Option Int → Memory 16 → Memory 16
  | none, o => o
  | some y, o => o.write i (lo16 y)

/-- A turn depends on its index only by the input cell it reads and the output cell it writes, produces a sample unless
it stops, and requests a switch exactly if it ends the block. -/
def TakesSamples (turn : Nat → State → Turn × State) : Prop :=
  ∀ (x : BitVec 16) (s : State), ∃ (k : Turn) (y : Option Int) (v : State), (k = .stop ↔ y = none) ∧
    v.sched.pend = (if k = .more then s.sched.pend else true) ∧
    ∀ i m o r, m.read i = x → turn i (s.withBuffers m o r) = (k, v.withBuffers m (placed i y o) r)

theorem TakesSamples.cells {turn : Nat → State → Turn × State} (h : TakesSamples turn) (i : Nat) (s : State) :
    KeepsOtherCells i s (turn i s).2 := by
  obtain ⟨k, y, v, -, -, hturn⟩ := h (s.inbuf.read i) s
  have hrun : turn i s = (k, v.withBuffers s.inbuf (placed i y s.outbuf) s.resp) := hturn i _ _ s.resp rfl
  rw [hrun]
  cases y with
  | none => exact .of_outbuf rfl
  | some y => exact .of_write rfl

/-- One more sample in a block of such turns: if the block has switched nothing, else one turn more. -/
theorem TakesSamples.succ {turn : Nat → State → Turn × State} (h : TakesSamples turn) (n : Nat) {s : State}
    (hpend : s.sched.pend = false) :
    ((sampleLoop turn n 0 s).2.sched.pend = true ∧ sampleLoop turn (n + 1) 0 s = sampleLoop turn n 0 s) ∨
    (¬ (sampleLoop turn n 0 s).2.sched.pend = true ∧ (sampleLoop turn n 0 s).1 = n ∧
      sampleLoop turn (n + 1) 0 s = sampleLoop turn 1 n (sampleLoop turn n 0 s).2) := by
  have hturn {i : Nat} {u t : State} {k : Turn} (hk : turn i u = (k, t)) :
      t.sched.pend = if k = .more then u.sched.pend else true := by
    obtain ⟨k, y, v, -, hv, hturn⟩ := h (u.inbuf.read i) u
    obtain ⟨rfl, rfl⟩ := Prod.mk.inj (hk.symm.trans (hturn i _ u.outbuf u.resp rfl))
    exact hv
  have key := sampleLoop_succ (·.sched.pend = true) turn
    (fun i u t hk => hk.elim (fun hk => hturn hk) (fun hk => hturn hk))
    (fun i u t hu hk => (hturn hk).trans_ne hu) n 0 s (by simp [hpend])
  rwa [Nat.zero_add] at key

/-- One turn and the zero-fill after it: one cell of OUTBUF is written, with the sample or with zero. -/
theorem TakesSamples.one {turn : Nat → State → Turn × State} (h : TakesSamples turn) (x : BitVec 16) (s : State) :
    ∃ (q : Nat) (y : BitVec 16) (v : State), q ≤ 1 ∧ ∀ i m o r, m.read i = x →
      (sampleLoop turn 1 i (s.withBuffers m o r)).1 = i + q ∧
      zeroFill (1 - q) (i + q) (sampleLoop turn 1 i (s.withBuffers m o r)).2 = v.withBuffers m (o.write i y) r := by
  obtain ⟨k, y, v, hstop, -, hturn⟩ := h x s
  cases y with
  | none =>
    obtain rfl : k = .stop := hstop.2 rfl
    refine ⟨0, 0, v, by decide, fun i m o r hx => ?_⟩
    rw [sampleLoop, hturn i m o r hx]
    exact ⟨rfl, rfl⟩
  | some y =>
    have hgoes : k = .last ∨ k = .more := by
      cases k with
      | stop => simp at hstop
      | last => exact .inl rfl
      | more => exact .inr rfl
    refine ⟨1, lo16 y, v, le_rfl, fun i m o r hx => ?_⟩
    rw [sampleLoop, hturn i m o r hx]
    rcases hgoes with rfl | rfl
    · exact ⟨rfl, rfl⟩
    · exact ⟨rfl, rfl⟩

/-- The detector's turn is a detector step and silence (R297). -/
theorem detectorTurn_takesSamples : TakesSamples detectorTurn := by
  intro x s
  have hsched := detStep_sched x.toInt s
  have hstep {i : Nat} {m : Memory 16} (o r) (hx : m.read i = x) :
      detStep (inSample i (s.withBuffers m o r)) (s.withBuffers m o r) =
        ((detStep x.toInt s).1, (detStep x.toInt s).2.withBuffers m o r) := by
    have hin : inSample i (s.withBuffers m o r) = x.toInt := congrArg BitVec.toInt hx
    rw [hin, State.withBuffers, detStep_withOuter, State.withBuffers, hsched]
  generalize detStep x.toInt s = d at hstep hsched
  obtain ⟨ans, t⟩ := d
  by_cases htimeout : ans = .timeout
  · refine ⟨.stop, none, lineTimeout t, by simp, rfl, fun i m o r hx => ?_⟩
    rw [detectorTurn, hstep o r hx]
    exact if_pos htimeout
  · by_cases hhit : ans = .hit
    · refine ⟨.last, some 0, request (modemOf t.ctl.mode) (event .detect t), by simp, rfl, fun i m o r hx => ?_⟩
      rw [detectorTurn, hstep o r hx]
      exact (if_neg htimeout).trans (if_pos hhit)
    · refine ⟨.more, some 0, t, by simp, congrArg Sched.pend hsched, fun i m o r hx => ?_⟩
      rw [detectorTurn, hstep o r hx]
      exact (if_neg htimeout).trans (if_neg hhit)

/-- The line timer reads neither the sample buffers nor the response. -/
theorem lineTimer_withBuffers (m o : Memory 16) (r : Option Word) (s : State) :
    lineTimer (s.withBuffers m o r) = (lineTimer s).map (·.withBuffers m o r) := by
  have hsched : (s.withBuffers m o r).sched = s.sched := rfl
  unfold lineTimer
  rw [hsched]
  split
  · rfl
  · split
    · rfl
    · rfl

/-- A sample of the FSK modem: the modulator's sample to its cell, then the demodulator on the input (R299). -/
theorem fskSample_withOuter {i : Nat} {x : BitVec 16} {m : Memory 16} (hx : m.read i = x) (c : Sched) (o : Memory 16)
    (r : Option Word) (s : State) : fskSample i (s.withOuter c m o r) = ((fskDem x.toInt (fskMod s).2).2.1,
      (fskDem x.toInt (fskMod s).2).2.2.withOuter c m (o.write i (lo16 (fskMod s).1)) r) := by
  have hin : inSample i (s.withOuter c m o r) = x.toInt := congrArg BitVec.toInt hx
  have hout : setOut i (fskMod s).1 ((fskMod s).2.withOuter c m o r) =
      (fskMod s).2.withOuter c m (o.write i (lo16 (fskMod s).1)) r := rfl
  rw [fskSample]
  simp only [hin, fskMod_withOuter, hout, fskDem_withOuter]

/-- A sample of the PSK modem (R300). -/
theorem pskSample_withOuter {i : Nat} {x : BitVec 16} {m : Memory 16} (hx : m.read i = x) (c : Sched) (o : Memory 16)
    (r : Option Word) (s : State) : pskSample i (s.withOuter c m o r) = ((pskDem x.toInt (pskMod s).2).2.1,
      (pskDem x.toInt (pskMod s).2).2.2.withOuter c m (o.write i (lo16 (pskMod s).1)) r) := by
  have hin : inSample i (s.withOuter c m o r) = x.toInt := congrArg BitVec.toInt hx
  have hout : setOut i (pskMod s).1 ((pskMod s).2.withOuter c m o r) =
      (pskMod s).2.withOuter c m (o.write i (lo16 (pskMod s).1)) r := rfl
  rw [pskSample]
  simp only [hin, pskMod_withOuter, hout, pskDem_withOuter]

/-- A sample of the FSK modem leaves the scheduler's registers alone. -/
theorem fskHeard_sched (x : Int) (s : State) : (fskDem x (fskMod s).2).2.2.sched = s.sched :=
  (fskDem_outsideScheduler x _).sched.trans (fskMod_outsideScheduler s).sched

/-- A sample of the PSK modem leaves the scheduler's registers alone. -/
theorem pskHeard_sched (x : Int) (s : State) : (pskDem x (pskMod s).2).2.2.sched = s.sched :=
  (pskDem_outsideScheduler x _).sched.trans (pskMod_outsideScheduler s).sched

theorem fskEvent_withBuffers (ev : CarrierEvent) (m o : Memory 16) (r : Option Word) (s : State) :
    fskEvent ev (s.withBuffers m o r) = ((fskEvent ev s).1, (fskEvent ev s).2.withBuffers m o r) := by
  cases ev <;> rfl

theorem pskEvent_withBuffers (ev : NegEvent) (m o : Memory 16) (r : Option Word) (s : State) :
    pskEvent ev (s.withBuffers m o r) = (pskEvent ev s).withBuffers m o r := by
  cases ev <;> rfl

theorem fskEvent_goesOn (ev : CarrierEvent) (s : State) : (fskEvent ev s).1 ≠ .stop := by
  cases ev <;> exact nofun

/-- The carrier event that ends the block is the one that requests a switch. -/
theorem fskEvent_pend (ev : CarrierEvent) (s : State) :
    (fskEvent ev s).2.sched.pend = if (fskEvent ev s).1 = .more then s.sched.pend else true := by
  cases ev <;> rfl

theorem pskEvent_pend (ev : NegEvent) (s : State) : (pskEvent ev s).sched.pend = s.sched.pend := by
  cases ev <;> rfl

theorem lineTimer_pend {s t : State} (h : lineTimer s = some t) : t.sched.pend = s.sched.pend := by
  obtain ⟨n, rfl⟩ := lineTimer_frame h
  rfl

/-- The FSK modem's turn is a sample of it and its event, unless the line timer has run out (R298, R299). -/
theorem fskTurn_takesSamples : TakesSamples fskTurn := by
  intro x s
  cases htimer : lineTimer s with
  | none =>
    refine ⟨.stop, none, lineTimeout s, by simp, rfl, fun i m o r hx => ?_⟩
    rw [fskTurn, lineTimer_withBuffers, htimer]
    rfl
  | some t =>
    have hsched := fskHeard_sched x.toInt t
    have hsample {i : Nat} {m : Memory 16} (hx : m.read i = x) (o r) := fskSample_withOuter hx t.sched o r t
    generalize fskDem x.toInt (fskMod t).2 = d at hsched hsample
    refine ⟨(fskEvent d.2.1 d.2.2).1, some (fskMod t).1, (fskEvent d.2.1 d.2.2).2, by simp [fskEvent_goesOn],
      (fskEvent_pend _ _).trans (by rw [hsched, lineTimer_pend htimer]), fun i m o r hx => ?_⟩
    rw [fskTurn, lineTimer_withBuffers, htimer, Option.map_some]
    dsimp only
    rw [State.withBuffers, hsample hx, ← hsched]
    exact fskEvent_withBuffers d.2.1 m (o.write i (lo16 (fskMod t).1)) r d.2.2

/-- The PSK modem's turn is a sample of it and its event, unless the line timer has run out (R298, R300). -/
theorem pskTurn_takesSamples : TakesSamples pskTurn := by
  intro x s
  cases htimer : lineTimer s with
  | none =>
    refine ⟨.stop, none, lineTimeout s, by simp, rfl, fun i m o r hx => ?_⟩
    rw [pskTurn, lineTimer_withBuffers, htimer]
    rfl
  | some t =>
    have hsched := pskHeard_sched x.toInt t
    have hsample {i : Nat} {m : Memory 16} (hx : m.read i = x) (o r) := pskSample_withOuter hx t.sched o r t
    generalize pskDem x.toInt (pskMod t).2 = d at hsched hsample
    refine ⟨.more, some (pskMod t).1, pskEvent d.2.1 d.2.2, by simp,
      (pskEvent_pend _ _).trans ((congrArg Sched.pend hsched).trans (lineTimer_pend htimer)), fun i m o r hx => ?_⟩
    rw [pskTurn, lineTimer_withBuffers, htimer, Option.map_some]
    dsimp only
    rw [State.withBuffers, hsample hx, ← hsched]
    exact congrArg (Prod.mk Turn.more) (pskEvent_withBuffers d.2.1 m (o.write i (lo16 (pskMod t).1)) r d.2.2)

/-- A block of any datapump leaves the cells from its end on (R296). -/
theorem dpProcess_cells (n : Nat) (s : State) {j : Nat} (hj : n ≤ j) :
    (dpProcess n s).2.outbuf.read j = s.outbuf.read j := by
  unfold dpProcess
  split
  · rfl
  · unfold dialerProcess
    split
    · rfl
    · exact sampleLoop_cells dialerWaitTurn_cells n s hj
    · split
      · rw [dlFetch_outbuf]
      · exact sampleLoop_cells dialerToneTurn_cells n s hj
  · exact sampleLoop_cells detectorTurn_takesSamples.cells n s hj
  · exact sampleLoop_cells fskTurn_takesSamples.cells n s hj
  · exact sampleLoop_cells pskTurn_takesSamples.cells n s hj

/-! ### PROC (R296, R316) -/

/-- A block inside the buffers keeps the memories canonical (20_memory.md R61). -/
theorem filled_keepsMemories {n : Nat} (hn : n ≤ 256) (s : State) : KeepsMemories s (filled n s) := by
  have hcount := dpProcess_count n s
  exact (dpProcess_keepsMemories n hn s).trans
    (zeroFill_keepsMemories (n - (dpProcess n s).1) (dpProcess n s).1 (by simp only [Param.blkMax]; omega) _)

/-- The zero-fill of a block inside the buffer, cell by cell (R296). -/
theorem filled_cells {n : Nat} (hn : n ≤ 256) {s : State} (hmem : s.MemoryCanonical) (j : Nat) :
    (filled n s).outbuf.read j =
      if (dpProcess n s).1 ≤ j ∧ j < n then 0 else (dpProcess n s).2.outbuf.read j := by
  obtain ⟨-, -, -, -, hout, -⟩ := (dpProcess_keepsMemories n hn s).memoryCanonical hmem
  have hcount := dpProcess_count n s
  rw [filled, read_zeroFill hout (by omega), Nat.add_sub_cancel' hcount]

/-! ### The samples of a block in index order (20_memory.md R70) -/

/-- The blocks of the datapump `d` are loops of turns that each take one sample (R297, R299, R300). -/
structure RunsBySamples (d : Datapump) (turn : Nat → State → Turn × State) : Prop where
  run : ∀ n s, s.sched.dp = d → dpProcess n s = sampleLoop turn n 0 s
  takes : TakesSamples turn

theorem detector_runsBySamples : RunsBySamples .detector detectorTurn where
  run n s hdp := by rw [dpProcess, hdp]
  takes := detectorTurn_takesSamples

theorem fsk_runsBySamples : RunsBySamples .fsk fskTurn where
  run n s hdp := by rw [dpProcess, hdp]
  takes := fskTurn_takesSamples

theorem psk_runsBySamples : RunsBySamples .psk pskTurn where
  run n s hdp := by rw [dpProcess, hdp]
  takes := pskTurn_takesSamples

/-- A switch reads neither the sample buffers nor the response. -/
theorem applySwitch_withBuffers (m o : Memory 16) (r : Option Word) (s : State) :
    applySwitch (s.withBuffers m o r) = (applySwitch s).withBuffers m o r := by
  rcases applySwitch_cases s with ⟨hnext, h⟩ | ⟨hnext, h⟩ | ⟨d, u, hnext, hcreate, h⟩ <;> rw [h]
  · exact applySwitch_none hnext
  · exact applySwitch_invalid hnext
  · refine (applySwitch_created (s := s.withBuffers m o r) (u := u.withBuffers m o r) hnext ?_).trans rfl
    cases d <;> cases hcreate <;> rfl

theorem handOver_withBuffers (m o : Memory 16) (r : Option Word) (s : State) :
    handOver (s.withBuffers m o r) = (handOver s).withBuffers m o r := by
  cases hpend : s.sched.pend
  · rw [handOver_idle hpend, handOver_idle (s := s.withBuffers m o r) hpend]
  · rw [handOver_pend hpend, handOver_pend (s := s.withBuffers m o r) hpend, applySwitch_withBuffers]

/-- One zero more. -/
theorem zeroFill_succ (left i : Nat) (s : State) :
    zeroFill (left + 1) i s = setOut (i + left) 0 (zeroFill left i s) := by
  induction left generalizing i s with
  | zero => rfl
  | succ k ih => rw [zeroFill, ih, zeroFill, Nat.succ_add_eq_add_succ]

/-- The zero-fill leaves the scheduler alone. -/
theorem filled_sched (n : Nat) (s : State) : (filled n s).sched = (dpProcess n s).2.sched := by
  obtain ⟨m, hfill⟩ := zeroFill_frame (n - (dpProcess n s).1) (dpProcess n s).1 (dpProcess n s).2
  rw [filled, hfill]

/-- STEP, given the block before its switch. -/
theorem exec_step_of_filled {b : BitVec 16} {s f : State} {p : Nat} {y : BitVec 16}
    (hp : (dpProcess 1 (setIn 0 b s)).1 = p) (hf : filled 1 (setIn 0 b s) = f) (hy : f.outbuf.read 0 = y) :
    exec (.step b) s = .next { handOver f with resp := some (stepResponse p f.sched.pend y) } := by
  subst hp hf hy
  rw [exec_step, (handOver_keepsHost _).1]

namespace RunsBySamples

variable {d : Datapump} {turn : Nat → State → Turn × State} (h : RunsBySamples d turn)
include h

/-- A block that has switched is the same one sample later, with one zero more. -/
theorem filled_succ_of_switched {n : Nat} {s : State} (hdp : s.sched.dp = d) (hpend : s.sched.pend = false)
    (hswitched : (filled n s).sched.pend = true) :
    dpProcess (n + 1) s = dpProcess n s ∧ filled (n + 1) s = setOut n 0 (filled n s) := by
  have hcount := dpProcess_count n s
  have hsame : dpProcess (n + 1) s = dpProcess n s := by
    rw [filled_sched, h.run n s hdp] at hswitched
    rw [h.run _ s hdp, h.run n s hdp]
    rcases h.takes.succ n hpend with ⟨-, hloop⟩ | ⟨hstays, -⟩
    · exact hloop
    · exact absurd hswitched hstays
  have hsucc := zeroFill_succ (n - (dpProcess n s).1) (dpProcess n s).1 (dpProcess n s).2
  rw [Nat.add_sub_cancel' hcount, ← Nat.sub_add_comm hcount] at hsucc
  exact ⟨hsame, by rw [filled, filled, hsame, hsucc]⟩

/-- A block that has not switched has produced all its samples, and one sample more is one turn more. -/
theorem filled_succ_of_not_switched {n : Nat} {s : State} (hdp : s.sched.dp = d) (hpend : s.sched.pend = false)
    (hstays : (filled n s).sched.pend = false) :
    (dpProcess n s).1 = n ∧ dpProcess (n + 1) s = sampleLoop turn 1 n (filled n s) := by
  have hloop : (dpProcess n s).1 = n ∧ dpProcess (n + 1) s = sampleLoop turn 1 n (dpProcess n s).2 := by
    rw [filled_sched, h.run n s hdp] at hstays
    rw [h.run (n + 1) s hdp, h.run n s hdp]
    rcases h.takes.succ n hpend with ⟨hswitched, -⟩ | ⟨-, hcount, hloop⟩
    · exact absurd hswitched (by simp [hstays])
    · exact ⟨hcount, hloop⟩
  obtain ⟨hcount, hloop⟩ := hloop
  rw [filled, hcount, Nat.sub_self]
  exact ⟨rfl, hloop⟩

/-- One turn at sample `n` in a block is a STEP of its input, but for the cells. -/
theorem turn_eq_step {t : State} (hdp : t.sched.dp = d) (hin : t.inbuf.wf 256 = true) (hout : t.outbuf.wf 256 = true)
    (n : Nat) : ∃ (q : Nat) (y : BitVec 16) (v : State), q ≤ 1 ∧ (sampleLoop turn 1 n t).1 = n + q ∧
      zeroFill (1 - q) (n + q) (sampleLoop turn 1 n t).2 = v.withBuffers t.inbuf (t.outbuf.write n y) t.resp ∧
      ∀ r, exec (.step (t.inbuf.read n)) { t with resp := r } = .next ((handOver v).withBuffers
        (t.inbuf.write 0 (t.inbuf.read n)) (t.outbuf.write 0 y) (some (stepResponse q v.sched.pend y))) := by
  obtain ⟨q, y, v, hq, hone⟩ := h.takes.one (t.inbuf.read n) t
  obtain ⟨hcount, hfill⟩ := hone n t.inbuf t.outbuf t.resp rfl
  refine ⟨q, y, v, hq, hcount, hfill, fun r => ?_⟩
  obtain ⟨hp, hcell⟩ := hone 0 (t.inbuf.write 0 (t.inbuf.read n)) t.outbuf r (Memory.read_write_same _ hin 0 _)
  rw [Nat.zero_add] at hp hcell
  have hrun : dpProcess 1 (setIn 0 (t.inbuf.read n) { t with resp := r }) =
      sampleLoop turn 1 0 (t.withBuffers (t.inbuf.write 0 (t.inbuf.read n)) t.outbuf r) := h.run 1 _ hdp
  have hfilled : filled 1 (setIn 0 (t.inbuf.read n) { t with resp := r }) =
      v.withBuffers (t.inbuf.write 0 (t.inbuf.read n)) (t.outbuf.write 0 y) r := by
    rw [filled, hrun, hp, hcell]
  have hread : (t.outbuf.write 0 y).read 0 = y := Memory.read_write_same _ hout 0 y
  have hstep := exec_step_of_filled (hrun ▸ hp) hfilled hread
  rw [handOver_withBuffers] at hstep
  exact hstep

/-- PROC of one sample more: the third clause of O29 (R70). -/
theorem proc_succ {b : BitVec 16} {s : State} (hb : 1 ≤ b.toNat ∧ b.toNat < 256) (hmem : s.MemoryCanonical)
    (hdp : s.sched.dp = d) (hpend : s.sched.pend = false) : ∃ (u t : State) (r : Word),
      exec (.proc b) s = .next u ∧ u.resp = some r ∧ exec (.proc (b + 1)) s = .next t ∧
      (r.getLsbD 12 = true → t = { u with outbuf := u.outbuf.write b.toNat 0 }) ∧
      (r.getLsbD 12 = false → r.toNat % 4096 = b.toNat ∧ ∃ (v : State) (w : Word),
        exec (.step (s.inbuf.read b.toNat)) u = .next v ∧ v.resp = some w ∧
        t = { v with
          inbuf := s.inbuf
          outbuf := u.outbuf.write b.toNat (v.outbuf.read 0)
          resp := some (procResponse (b.toNat + (w.getLsbD 16).toNat) (w.getLsbD 17) v.sched.dp) }) := by
  obtain ⟨hlow, hhigh⟩ := hb
  have hsucc : (b + 1).toNat = b.toNat + 1 := by
    rw [BitVec.toNat_add]
    exact Nat.mod_eq_of_lt (by simp; omega)
  obtain ⟨hp, -, hsw⟩ := procResponse_fields ((dpProcess_count b.toNat s).trans hhigh.le)
    (filled b.toNat s).sched.pend (handOver (filled b.toNat s)).sched.dp
  have hexec := exec_proc ⟨hlow, hhigh.le⟩ s
  have hlonger := exec_proc (b := b + 1) (by omega) s
  rw [hsucc] at hlonger
  have hblock : KeepsBlock s (filled b.toNat s) := filled_keepsBlock b.toNat s
  generalize b.toNat = n at *
  refine ⟨_, _, _, hexec, rfl, hlonger, fun hswitched => ?_, fun hstays => ?_⟩
  · obtain ⟨hproc, hfilled⟩ := h.filled_succ_of_switched hdp hpend (hsw.symm.trans hswitched)
    have hover := handOver_withOutput ((filled n s).outbuf.write n 0) (filled n s).resp (filled n s)
    have hwrite : setOut n 0 (filled n s) =
      (filled n s).withOutput ((filled n s).outbuf.write n 0) (filled n s).resp := rfl
    rw [hproc, hfilled, hwrite, hover, (handOver_keepsHost (filled n s)).1]
    rfl
  · rw [hsw] at hstays
    obtain ⟨hall, hnext⟩ := h.filled_succ_of_not_switched hdp hpend hstays
    refine ⟨hp.trans hall, ?_⟩
    rw [handOver_idle hstays]
    have hsched : (filled n s).sched.dp = d := hblock.dp.trans hdp
    have hmem := (filled_keepsMemories hhigh.le s).memoryCanonical hmem
    obtain ⟨-, -, -, hin, hout, -⟩ := hmem
    obtain ⟨q, y, v, hq, hcount, hcell, hstep⟩ := h.turn_eq_step hsched hin hout n
    have hfilled : filled (n + 1) s = v.withBuffers (filled n s).inbuf ((filled n s).outbuf.write n y)
        (filled n s).resp := by
      rw [← hcell, filled, hnext, hcount]
      congr 1
      omega
    obtain ⟨-, hwq, hwsw, -⟩ := stepResponse_fields hq v.sched.pend y
    rw [← hblock.inbuf]
    refine ⟨_, _, hstep _, rfl, ?_⟩
    have hone : (decide (q = 1)).toNat = q := by interval_cases q <;> rfl
    have hread : ((filled n s).outbuf.write 0 y).read 0 = y := Memory.read_write_same _ hout 0 y
    have hcell0 : ((handOver v).withBuffers ((filled n s).inbuf.write 0 ((filled n s).inbuf.read n))
      ((filled n s).outbuf.write 0 y) (some (stepResponse q v.sched.pend y))).outbuf.read 0 = y := hread
    rw [hnext, hcount, hfilled, handOver_withBuffers, hwq, hwsw, hone, hcell0]
    rfl

end RunsBySamples

/-- Settles O29: a block is its samples, the zero-fill and the switch, and under the detector, FSK and PSK its samples
are turns. -/
theorem procProcessesOneBlock : Obligations.ProcProcessesOneBlock := by
  unfold Obligations.ProcProcessesOneBlock
  refine fun b s => ⟨fun hb => exec_proc_range hb s, fun hlow hhigh hmem => ?_, fun hlow hhigh hmem hpend hdp => ?_⟩
  · have hkept : KeepsParameters s (handOver (filled b.toNat s)) := by
      simpa only [process_eq] using process_keepsParameters b.toNat s
    have hblock : KeepsBlock s (filled b.toNat s) := filled_keepsBlock b.toNat s
    obtain ⟨hout, hlen, hdir⟩ := handOver_keepsHost (filled b.toNat s)
    have hread (j : Nat) := (congrArg (Memory.read · j) hout).trans (filled_cells hhigh hmem j)
    refine ⟨_, (dpProcess b.toNat s).1, (filled b.toNat s).sched.pend, exec_proc ⟨hlow, hhigh⟩ s,
      by rw [process_eq], by rw [process_eq], by rw [process_eq], rfl, dpProcess_count _ s,
      fun i hi hn => (hread i).trans (if_pos ⟨hi, hn⟩),
      fun i hi => ((hread i).trans (if_neg (by omega))).trans (dpProcess_cells _ s hi),
      hkept.inbuf, hkept.sreg, hkept.ctl, hkept.dialstr, hlen.trans hblock.diallen, hdir.trans hblock.dir,
      handOver_settled _, fun hstays => ?_, fun hswitch => ?_, fun hidle hpend => ?_⟩
    · rw [handOver_idle hstays]
      exact hblock.dp
    · rw [handOver_pend hswitch]
      exact ⟨applySwitch_evt _, (applySwitch_settled _).2⟩
    · have hproc : dpProcess b.toNat s = (0, s) := by rw [dpProcess, hidle]
      have hanswer : procResponse 0 false .none = 0 := by decide
      obtain ⟨m, hfilled⟩ := zeroFill_frame b.toNat 0 s
      have hsilence : filled b.toNat s = { s with outbuf := m } := by rw [filled, hproc, Nat.sub_zero, hfilled]
      have hover : handOver { s with outbuf := m } = { s with outbuf := m } := handOver_idle hpend
      rw [hproc, hsilence, hover]
      refine ⟨rfl, hpend, ?_⟩
      rw [hpend, hidle, hanswer]
  · rcases hdp with hdp | hdp | hdp
    · exact detector_runsBySamples.proc_succ ⟨hlow, hhigh⟩ hmem hdp hpend
    · exact fsk_runsBySamples.proc_succ ⟨hlow, hhigh⟩ hmem hdp hpend
    · exact psk_runsBySamples.proc_succ ⟨hlow, hhigh⟩ hmem hdp hpend

end Sys2Proof.Machine
end

section
/-! OneSample.lean: expired timers, the line timer, and one sample of each datapump against the unit's direct commands
(48_scheduler_host.md R292 to R300, R317, 42_dtmf_dialer.md R149). -/

namespace Sys2Proof.Machine

/-- Two events of one sample. -/
theorem evt_or_or {m n k : BitVec 11} (h : m ||| n = k) (e : BitVec 11) : e ||| m ||| n = e ||| k := by
  rw [BitVec.or_assoc, h]

/-! ### Expired timers (R297, R298) -/

/-- Without CONNECT the FSK modem stops before its first sample when the line timer is 0. -/
theorem fskTurn_expired {s : State} (hconnect : s.sched.connect = false) (hlt : s.sched.lt = 0) (i : Nat) :
    fskTurn i s = (.stop, lineTimeout s) := by
  simp [fskTurn, lineTimer, hconnect, hlt]

theorem pskTurn_expired {s : State} (hconnect : s.sched.connect = false) (hlt : s.sched.lt = 0) (i : Nat) :
    pskTurn i s = (.stop, lineTimeout s) := by
  simp [pskTurn, lineTimer, hconnect, hlt]

theorem detectorTurn_expired {s : State} (htmo : s.det.tmo = 0) (i : Nat) :
    detectorTurn i s = (.stop, lineTimeout s) := by
  simp [detectorTurn, detStep_timeout _ s htmo, lineTimeout]

/-- A block whose first turn stops with the line's time-out produces nothing. -/
theorem RunsBySamples.expired {d : Datapump} {turn : Nat → State → Turn × State} (h : RunsBySamples d turn)
    {s : State} (hdp : s.sched.dp = d) (hturn : turn 0 s = (.stop, lineTimeout s)) {n : Nat} (hn : 1 ≤ n) :
    dpProcess n s = (0, lineTimeout s) := by
  obtain ⟨k, rfl⟩ := Nat.exists_eq_add_of_le' hn
  rw [h.run _ s hdp, sampleLoop, hturn]

/-- The line's time-out and its switch (R294, R298). -/
theorem handOver_lineTimeout (s : State) :
    handOver (lineTimeout s) = { s with evt := s.evt ||| 0x202, sched := s.sched.released } := by
  have hevt : s.evt ||| Event.timeout.mask ||| 0x200 = s.evt ||| 0x202 := evt_or_or (by decide) _
  rw [handOver_pend rfl, applySwitch_released rfl, ← hevt]
  rfl

/-- PROC of a block that times out before its first sample. -/
theorem exec_proc_expired {b : BitVec 16} {s : State} (hb : 1 ≤ b.toNat ∧ b.toNat ≤ 256)
    (hrun : dpProcess b.toNat s = (0, lineTimeout s)) : ∃ t : State, exec (.proc b) s = .next t ∧
      t = { s with
        evt := s.evt ||| 0x202
        sched := s.sched.released
        outbuf := t.outbuf
        resp := some 0x1000 } := by
  obtain ⟨m, hexec, -⟩ := exec_proc_eq_blockEnd hb hrun
  have hheader : blockHeader (lineTimeout s) = 0x1000 := by
    have hvalue : (0#5 ++ Datapump.none.id ++ 0#3 ++ BitVec.ofBool true).setWidth 32 <<< 12 = (0x1000 : Word) := by
      decide
    rw [blockHeader, handOver_lineTimeout]
    exact hvalue
  refine ⟨_, hexec, ?_⟩
  rw [blockEnd, handOver_lineTimeout, hheader]
  rfl

/-! ### The line timer (R298) -/

/-- The line timer after a sample: one less without CONNECT, the same with it. -/
def State.ltAfter (s : State) : Nat := if s.sched.connect then s.sched.lt else s.sched.lt - 1

/-- With time left the line timer counts the sample. -/
theorem lineTimer_running {s : State} (h : s.sched.connect = true ∨ 0 < s.sched.lt) :
    lineTimer s = some { s with sched := { s.sched with lt := s.ltAfter } } := by
  unfold lineTimer State.ltAfter
  split
  · rfl
  · rename_i hconnect
    have hlt : 0 < s.sched.lt := h.resolve_left hconnect
    rw [if_neg hlt.ne']

/-- The line timer stands at `n`, and a request in `s` is one to hang up. -/
def State.TimedAt (n : Nat) (s : State) : Prop :=
  s.sched.lt = n ∧ (s.sched.pend = true → s.sched.next = .dp .none)

/-- The switch to NONE leaves the line timer (R294). -/
theorem State.TimedAt.handOver {n : Nat} {s : State} (h : s.TimedAt n) : (handOver s).sched.lt = n := by
  obtain ⟨hlt, hrelease⟩ := h
  cases hpend : s.sched.pend with
  | false => rwa [handOver_idle hpend]
  | true =>
    rw [handOver_pend hpend, applySwitch_released (hrelease hpend)]
    exact hlt

/-- CONNECT is 1, the line timer stands at `n`, and no request is outstanding. -/
def State.ConnectedAt (n : Nat) (s : State) : Prop :=
  s.sched.connect = true ∧ s.sched.lt = n ∧ s.sched.pend = false

/-- With no request outstanding the line timer stands where it is. -/
theorem State.TimedAt.of_idle {s : State} (hpend : s.sched.pend = false) : s.TimedAt s.sched.lt :=
  ⟨rfl, by simp [hpend]⟩

/-- The carrier events leave the line timer, and LOST hangs up. -/
theorem fskEvent_time (ev : CarrierEvent) {s : State} (hpend : s.sched.pend = false) :
    (fskEvent ev s).2.TimedAt s.sched.lt ∧
      ((fskEvent ev s).1 = .more → s.sched.connect = true → (fskEvent ev s).2.ConnectedAt s.sched.lt) := by
  cases ev with
  | none => exact ⟨.of_idle hpend, fun _ hconnect => ⟨hconnect, rfl, hpend⟩⟩
  | cd => exact ⟨.of_idle hpend, fun _ _ => ⟨rfl, rfl, hpend⟩⟩
  | lost => exact ⟨⟨rfl, fun _ => rfl⟩, nofun⟩

/-- The negotiation events leave the line timer and request nothing. -/
theorem pskEvent_time (ev : NegEvent) {s : State} (hpend : s.sched.pend = false) :
    (pskEvent ev s).TimedAt s.sched.lt ∧
      (s.sched.connect = true → (pskEvent ev s).ConnectedAt s.sched.lt) := by
  cases ev with
  | none => exact ⟨.of_idle hpend, fun hconnect => ⟨hconnect, rfl, hpend⟩⟩
  | scr => exact ⟨.of_idle hpend, fun hconnect => ⟨hconnect, rfl, hpend⟩⟩
  | data => exact ⟨.of_idle hpend, fun _ => ⟨rfl, rfl, hpend⟩⟩
  | fail => exact ⟨.of_idle hpend, fun hconnect => ⟨hconnect, rfl, hpend⟩⟩

/-- A turn with time left counts the line timer by its rule, and one that goes on keeps CONNECT. -/
def CountsTime (turn : Nat → State → Turn × State) : Prop :=
  ∀ i (s : State), s.sched.connect = true ∨ 0 < s.sched.lt → s.sched.pend = false →
    (turn i s).2.TimedAt s.ltAfter ∧
      ((turn i s).1 = .more → s.sched.connect = true → (turn i s).2.ConnectedAt s.ltAfter)

theorem fskTurn_countsTime : CountsTime fskTurn := by
  intro i s hrunning hpend
  rw [fskTurn, lineTimer_running hrunning]
  have hsched := fskSample_sched i { s with sched := { s.sched with lt := s.ltAfter } }
  have h := fskEvent_time (fskSample i { s with sched := { s.sched with lt := s.ltAfter } }).1
    ((congrArg Sched.pend hsched).trans hpend)
  rwa [hsched] at h

theorem pskTurn_countsTime : CountsTime pskTurn := by
  intro i s hrunning hpend
  rw [pskTurn, lineTimer_running hrunning]
  have hsched := pskSample_sched i { s with sched := { s.sched with lt := s.ltAfter } }
  have h := pskEvent_time (pskSample i { s with sched := { s.sched with lt := s.ltAfter } }).1
    ((congrArg Sched.pend hsched).trans hpend)
  rw [hsched] at h
  exact ⟨h.1, fun _ => h.2⟩

/-- One turn and no more. -/
theorem sampleLoop_one (turn : Nat → State → Turn × State) (i : Nat) (s : State) :
    (sampleLoop turn 1 i s).2 = (turn i s).2 := by
  rw [sampleLoop]
  generalize turn i s = r
  obtain ⟨k, t⟩ := r
  cases k <;> rfl

/-- A block with CONNECT leaves the line timer alone. -/
theorem CountsTime.connected {turn : Nat → State → Turn × State} (h : CountsTime turn) {n k : Nat} {s : State}
    (hs : s.ConnectedAt n) : (sampleLoop turn k 0 s).2.TimedAt n := by
  have hturn {i : Nat} {t u : State} {ans : Turn} (ht : t.ConnectedAt n) (he : turn i t = (ans, u)) :
      u.TimedAt n ∧ (ans = .more → u.ConnectedAt n) := by
    obtain ⟨hconnect, hlt, hpend⟩ := ht
    have hstays : t.ltAfter = n := by rw [State.ltAfter, if_pos hconnect, hlt]
    have htime := h i t (.inl hconnect) hpend
    rw [he, hstays] at htime
    exact ⟨htime.1, fun hmore => htime.2 hmore hconnect⟩
  exact sampleLoop_inv_at (fun _ => State.ConnectedAt n) (State.TimedAt n) turn k
    (fun _ _ _ _ ht he => (hturn ht he).1) (fun _ _ _ _ ht he => (hturn ht he).1)
    (fun _ _ _ _ ht he => (hturn ht he).2 rfl)
    (fun _ ⟨_, hlt, hpend⟩ => ⟨hlt, by simp [hpend]⟩) k 0 s (Nat.zero_add k) hs

/-- STEP counts the line timer by its rule. -/
theorem RunsBySamples.exec_step_time {d : Datapump} {turn : Nat → State → Turn × State} (h : RunsBySamples d turn)
    (htime : CountsTime turn) {s : State} (hdp : s.sched.dp = d) (hpend : s.sched.pend = false)
    (hrunning : s.sched.connect = true ∨ 0 < s.sched.lt) (b : BitVec 16) :
    ∃ t : State, exec (.step b) s = .next t ∧ t.sched.lt = s.ltAfter := by
  obtain ⟨hturn, -⟩ := htime 0 (setIn 0 b s) hrunning hpend
  have hfilled : (filled 1 (setIn 0 b s)).TimedAt s.ltAfter := by
    rwa [State.TimedAt, filled_sched, h.run 1 (setIn 0 b s) hdp, sampleLoop_one]
  exact ⟨_, exec_step b s, hfilled.handOver⟩

/-- PROC with CONNECT leaves the line timer. -/
theorem RunsBySamples.exec_proc_time {d : Datapump} {turn : Nat → State → Turn × State} (h : RunsBySamples d turn)
    (htime : CountsTime turn) {s : State} (hdp : s.sched.dp = d) (hs : s.ConnectedAt s.sched.lt) {b : BitVec 16}
    (hb : 1 ≤ b.toNat ∧ b.toNat ≤ 256) :
    ∃ t : State, exec (.proc b) s = .next t ∧ t.sched.lt = s.sched.lt := by
  have hfilled : (filled b.toNat s).TimedAt s.sched.lt := by
    rw [State.TimedAt, filled_sched, h.run _ s hdp]
    exact htime.connected hs
  exact ⟨_, exec_proc hb s, hfilled.handOver⟩

/-! ### One sample as a turn (R317) -/

/-- The responses of STEP for a sample without a switch and with one (R317). -/
theorem stepResponse_one (y : BitVec 16) : stepResponse 1 false y = y.setWidth 32 ||| 0x10000 ∧
    stepResponse 1 true y = y.setWidth 32 ||| 0x30000 := by
  have hheader : (0#6 ++ BitVec.ofBool false ++ BitVec.ofNat 1 1).setWidth 32 <<< 16 = (0x10000 : Word) ∧
      (0#6 ++ BitVec.ofBool true ++ BitVec.ofNat 1 1).setWidth 32 <<< 16 = (0x30000 : Word) := by
    decide
  rw [stepResponse, stepResponse, hheader.1, hheader.2]
  exact ⟨rfl, rfl⟩

/-- STEP whose turn has produced its sample and requests nothing, or whose turn requests a switch. -/
theorem exec_step_of_turn {turn : Nat → State → Turn × State} {b y : BitVec 16} {s f : State} {k : Turn}
    (hrun : dpProcess 1 (setIn 0 b s) = sampleLoop turn 1 0 (setIn 0 b s)) (hturn : turn 0 (setIn 0 b s) = (k, f))
    (hk : k ≠ .stop) (hy : f.outbuf.read 0 = y) :
    (f.sched.pend = false → exec (.step b) s = .next { f with resp := some (y.setWidth 32 ||| 0x10000) }) ∧
    (f.sched.pend = true →
      exec (.step b) s = .next { applySwitch f with resp := some (y.setWidth 32 ||| 0x30000) }) := by
  have hloop : dpProcess 1 (setIn 0 b s) = (1, f) := by
    rw [hrun, sampleLoop, hturn]
    cases k with
    | stop => exact absurd rfl hk
    | last => rfl
    | more => rfl
  have hfilled : filled 1 (setIn 0 b s) = f := by
    rw [filled, hloop]
    rfl
  obtain ⟨hmore, hlast⟩ := stepResponse_one y
  have hstep := exec_step_of_filled (congrArg Prod.fst hloop) hfilled hy
  refine ⟨fun hpend => ?_, fun hpend => ?_⟩
  · rw [hstep, handOver_idle hpend, hpend, hmore]
  · rw [hstep, handOver_pend hpend, hpend, hlast]

/-! ### The detector (R297) -/

/-- The code in the response of DETS names HIT exactly for a hit (41_tone_detector.md R129). -/
theorem detsCode_hit_iff (a : DetResult) (v : BitVec 4) :
    ((a.code.setWidth 32 ||| (v.setWidth 32 <<< 4) : Word).extractLsb' 0 2 = 2) ↔ a = .hit := by
  have hlow : (a.code.setWidth 32 ||| (v.setWidth 32 <<< 4) : Word).extractLsb' 0 2 = a.code.extractLsb' 0 2 := by
    ext i hi
    have hfour : i < 4 := by omega
    have hword : i < 32 := by omega
    simp [hfour, hword]
  rw [hlow]
  cases a <;> decide

/-- A detector step inside STEP is DETS on the parked machine. -/
theorem detStep_setIn {b : BitVec 16} {s : State} (hin : s.inbuf.wf 256 = true) :
    detStep (inSample 0 (setIn 0 b s)) (setIn 0 b s) = ((detStep b.toInt s).1,
      (detStep b.toInt s).2.withOuter s.sched (s.inbuf.write 0 b) s.outbuf s.resp) := by
  have hread : inSample 0 (setIn 0 b s) = b.toInt := congrArg BitVec.toInt (Memory.read_write_same _ hin 0 b)
  rw [hread]
  exact detStep_withOuter s.sched (s.inbuf.write 0 b) s.outbuf s.resp b.toInt s

/-- DETS on the parked machine. -/
theorem exec_dets_parked (b : BitVec 16) (s : State) : exec (.dets b) s.parked = .next
    ((detStep b.toInt s).2.withOuter s.parked.sched s.inbuf s.outbuf (some ((detStep b.toInt s).1.code.setWidth 32 |||
      ((detStep b.toInt s).2.det.detected.setWidth 32 <<< 4)))) := by
  have hstep : detStep b.toInt s.parked = ((detStep b.toInt s).1,
      (detStep b.toInt s).2.withOuter s.parked.sched s.inbuf s.outbuf s.resp) :=
    detStep_withOuter s.parked.sched s.inbuf s.outbuf s.resp b.toInt s
  rw [exec_dets b rfl, hstep]
  rfl

/-- The direction of the operand of FSKI and PSKI. -/
theorem ofBit_operand (d : Direction) : Direction.ofBit (d.operand.getLsbD 0) = d := by
  cases d <;> rfl

/-- FSKI in idle mode, for a direction. -/
theorem exec_fski_operand (d : Direction) {s : State} (hidle : s.sched.dp = .none) :
    exec (.fski d.operand) s = .next { fskInit d s with resp := some 0 } := by
  rw [exec_fski _ hidle, ofBit_operand]
  rfl

/-- PSKI in idle mode, for a direction. -/
theorem exec_pski_operand (d : Direction) {s : State} (hidle : s.sched.dp = .none) :
    exec (.pski d.operand) s = .next { pskInit d s with resp := some 0 } := by
  have hexec : exec (.pski d.operand) s = done 0 (pskInit (Direction.ofBit (d.operand.getLsbD 0)) s) :=
    direct_idle s _ hidle
  rw [hexec, ofBit_operand]
  rfl

/-- BQI in idle mode. -/
theorem exec_bqi {s : State} (hidle : s.sched.dp = .none) : exec .bqi s = .next { bqInit s with resp := some 0 } :=
  direct_idle s _ hidle

/-- A detector's turn with budget left: silence, and the modem's request after a hit. -/
theorem detectorTurn_of_step {i : Nat} {s t : State} {ans : DetResult} (h : detStep (inSample i s) s = (ans, t))
    (hleft : ans ≠ .timeout) : detectorTurn i s =
      if ans = .hit then (.last, request (modemOf t.ctl.mode) (event .detect (setOut i 0 t)))
      else (.more, setOut i 0 t) := by
  rw [detectorTurn, h]
  exact if_neg hleft

/-- The state of a detector that has taken one silent sample of STEP. -/
def State.listened (b : BitVec 16) (s : State) : State :=
  (detStep b.toInt s).2.withOuter s.sched (s.inbuf.write 0 b) (s.outbuf.write 0 0) s.resp

/-- STEP of the detector, without a hit and with one. -/
theorem exec_step_detector {b : BitVec 16} {s : State} (hmem : s.MemoryCanonical) (hdp : s.sched.dp = .detector)
    (hpend : s.sched.pend = false) (hleft : 0 < s.det.tmo) :
    ((detStep b.toInt s).1 ≠ .hit → exec (.step b) s = .next { s.listened b with resp := some 0x10000 }) ∧
    ((detStep b.toInt s).1 = .hit → exec (.step b) s = .next {
      applySwitch (request (modemOf (s.listened b).ctl.mode) (event .detect (s.listened b))) with
        resp := some 0x30000 }) := by
  obtain ⟨-, -, -, hin, hout, -⟩ := hmem
  have hstays : (detStep b.toInt s).1 ≠ .timeout := fun h => hleft.ne' ((detStep_timeout_iff _ s).1 h)
  have hturn : detectorTurn 0 (setIn 0 b s) = if (detStep b.toInt s).1 = .hit then
      (.last, request (modemOf (s.listened b).ctl.mode) (event .detect (s.listened b))) else (.more, s.listened b) :=
    detectorTurn_of_step (detStep_setIn hin) hstays
  have hrun := detector_runsBySamples.run 1 (setIn 0 b s) hdp
  have hread : (s.outbuf.write 0 0).read 0 = 0 := Memory.read_write_same _ hout 0 0
  refine ⟨fun hmiss => ?_, fun hhit => ?_⟩
  · rw [if_neg hmiss] at hturn
    exact (exec_step_of_turn hrun hturn nofun hread).1 hpend
  · rw [if_pos hhit] at hturn
    exact (exec_step_of_turn hrun hturn nofun hread).2 rfl

/-- The fourth clause of O31: one sample of the detector (R297). -/
theorem detector_oneSample (b : BitVec 16) {s : State} (hmem : s.MemoryCanonical) (hdp : s.sched.dp = .detector)
    (hpend : s.sched.pend = false) (hleft : 0 < s.det.tmo) :
    ∃ (d : State) (r : Word), exec (.dets b) s.parked = .next d ∧ d.resp = some r ∧
      (r.extractLsb' 0 2 ≠ 2 →
        exec (.step b) s = .next { d.sampled b 0 s with sched := s.sched, resp := some 0x10000 }) ∧
      (r.extractLsb' 0 2 = 2 →
        (s.ctl.mode = 0 → ∃ f q : State, exec (.fski s.sched.dir.operand) d = .next f ∧ exec .bqi f = .next q ∧
          exec (.step b) s = .next { q.sampled b 0 s with
            evt := s.evt ||| 0x240
            sched := ⟨.fsk, .dp .fsk, false, s.sched.dir, false, s.sched.offhook, s.sreg[7].toNat * 8000⟩
            resp := some 0x30000 }) ∧
        (s.ctl.mode = 1 → ∃ f q : State, exec (.pski s.sched.dir.operand) d = .next f ∧ exec .bqi f = .next q ∧
          exec (.step b) s = .next { q.sampled b 0 s with
            evt := s.evt ||| 0x240
            sched := ⟨.psk, .dp .psk, false, s.sched.dir, false, s.sched.offhook, s.sreg[7].toNat * 8000⟩
            resp := some 0x30000 }) ∧
        (s.ctl.mode = 2 ∨ s.ctl.mode = 3 →
          exec (.step b) s = .next { d.sampled b 0 s with
            evt := s.evt ||| 0x260
            sched := s.sched.released
            resp := some 0x30000 })) := by
  obtain ⟨hmiss, hhit⟩ := exec_step_detector (b := b) hmem hdp hpend hleft
  obtain ⟨o, v, he⟩ := detStep_frame b.toInt s
  obtain ⟨hfsk, hpsk, htwo, hthree⟩ := modemOf_val
  have hswitched : s.evt ||| 0x240 = s.evt ||| Event.detect.mask ||| 0x200 := (evt_or_or (by decide) _).symm
  have hfailed : s.evt ||| 0x260 = s.evt ||| Event.detect.mask ||| 0x220 := (evt_or_or (by decide) _).symm
  refine ⟨_, _, exec_dets_parked b s, rfl, fun h => hmiss (h ∘ (detsCode_hit_iff _ _).2), fun h => ?_⟩
  have hstep := hhit ((detsCode_hit_iff _ _).1 h)
  rw [State.listened, he] at hstep
  rw [hswitched, hfailed, he, hstep]
  refine ⟨fun hmode => ⟨_, _, exec_fski_operand _ rfl, exec_bqi rfl, ?_⟩,
    fun hmode => ⟨_, _, exec_pski_operand _ rfl, exec_bqi rfl, ?_⟩, fun hmode => ?_⟩
  · rw [applySwitch_fsk (hfsk ▸ congrArg modemOf hmode)]
    rfl
  · rw [applySwitch_psk (hpsk ▸ congrArg modemOf hmode)]
    rfl
  · have hinvalid : modemOf s.ctl.mode = .invalid := by
      rcases hmode with hmode | hmode
      · rw [hmode, htwo]
      · rw [hmode, hthree]
    rw [applySwitch_failed hinvalid]
    rfl

/-! ### The dialer's wait (42_dtmf_dialer.md R149) -/

/-- The fifth clause of O31: one sample of the dialer's wait. -/
theorem dialerWait_oneSample (b : BitVec 16) {s : State} (hmem : s.MemoryCanonical) (hdp : s.sched.dp = .dialer)
    (hpend : s.sched.pend = false) (hwait : s.dial.dlstate = .wait) (hleft : 0 < s.det.tmo) :
    ∃ (d : State) (r : Word), exec (.dets b) s.parked = .next d ∧ d.resp = some r ∧
      exec (.step b) s = .next { d.sampled b 0 s with
        evt := if r.extractLsb' 0 2 = 2 then s.evt ||| 0x40 else s.evt
        sched := s.sched
        resp := some 0x10000 } := by
  obtain ⟨-, -, -, hin, hout, -⟩ := hmem
  have hstays : (detStep b.toInt s).1 ≠ .timeout := fun h => hleft.ne' ((detStep_timeout_iff _ s).1 h)
  have hturn : dialerWaitTurn 0 (setIn 0 b s) =
      (.more, if (detStep b.toInt s).1 = .hit then event .detect (s.listened b) else s.listened b) := by
    rw [dialerWaitTurn, detStep_setIn hin]
    exact if_neg hstays
  have hrun : dpProcess 1 (setIn 0 b s) = sampleLoop dialerWaitTurn 1 0 (setIn 0 b s) := by
    have hstate : (setIn 0 b s).dial.dlstate = .wait := hwait
    rw [dpProcess_dialer (s := setIn 0 b s) hdp, dialerProcess, hstate]
  have hread : (s.outbuf.write 0 0).read 0 = 0 := Memory.read_write_same _ hout 0 0
  obtain ⟨o, v, he⟩ := detStep_frame b.toInt s
  refine ⟨_, _, exec_dets_parked b s, rfl, ?_⟩
  by_cases hhit : (detStep b.toInt s).1 = .hit
  · rw [if_pos hhit] at hturn
    rw [(exec_step_of_turn hrun hturn nofun hread).1 hpend, if_pos ((detsCode_hit_iff _ _).2 hhit), State.listened, he]
    rfl
  · rw [if_neg hhit] at hturn
    rw [(exec_step_of_turn hrun hturn nofun hread).1 hpend, if_neg (hhit ∘ (detsCode_hit_iff _ _).1), State.listened,
      he]
    rfl

/-! ### The FSK modem (R299) -/

/-- The sample in the response of FSKM and PSKM. -/
theorem setWidth_sample (y : BitVec 16) : (y.setWidth 32).setWidth 16 = y :=
  (BitVec.setWidth_setWidth_of_le _ (by decide)).trans (BitVec.setWidth_eq _)

/-- FSKM on the parked machine. -/
theorem exec_fskm_parked (s : State) : exec .fskm s.parked = .next
    ((fskMod s).2.withOuter s.parked.sched s.inbuf s.outbuf (some ((lo16 (fskMod s).1).setWidth 32))) := by
  have hmod : fskMod s.parked = ((fskMod s).1, (fskMod s).2.withOuter s.parked.sched s.inbuf s.outbuf s.resp) :=
    fskMod_withOuter s.parked.sched s.inbuf s.outbuf s.resp s
  rw [exec_fskm rfl, hmod]
  rfl

/-- FSKD on a parked machine. -/
theorem exec_fskd_parked (b : BitVec 16) {c : Sched} (hidle : c.dp = .none) (i o : Memory 16) (x : Option Word)
    (s : State) :
    ∃ r, exec (.fskd b) (s.withOuter c i o x) = .next ((fskDem b.toInt s).2.2.withOuter c i o (some r)) := by
  have hexec := exec_fskd b (s := s.withOuter c i o x) hidle
  rw [fskDem_withOuter] at hexec
  exact ⟨_, hexec⟩

/-- FSK's turn in STEP with time left. -/
theorem fskTurn_setIn {b : BitVec 16} {s : State} (hin : s.inbuf.wf 256 = true)
    (hrunning : s.sched.connect = true ∨ 0 < s.sched.lt) : fskTurn 0 (setIn 0 b s) =
      fskEvent (fskDem b.toInt (fskMod s).2).2.1 ((fskDem b.toInt (fskMod s).2).2.2.withOuter
        { s.sched with lt := s.ltAfter } (s.inbuf.write 0 b) (s.outbuf.write 0 (lo16 (fskMod s).1)) s.resp) := by
  have htimer := lineTimer_running (s := setIn 0 b s) hrunning
  have hsample := fskSample_withOuter (Memory.read_write_same _ hin 0 b) { s.sched with lt := s.ltAfter } s.outbuf
    s.resp s
  rw [fskTurn, htimer]
  exact congrArg (fun e => fskEvent e.1 e.2) hsample

/-- The sixth clause of O31: one sample of the FSK modem. -/
theorem fsk_oneSample (b : BitVec 16) {s : State} (hmem : s.MemoryCanonical) (hdp : s.sched.dp = .fsk)
    (hpend : s.sched.pend = false) (hrunning : s.sched.connect = true ∨ 0 < s.sched.lt) :
    ∃ (m d : State) (y : Word) (lt : Nat), exec .fskm s.parked = .next m ∧ m.resp = some y ∧
      exec (.fskd b) m = .next d ∧ lt = (if s.sched.connect then s.sched.lt else s.sched.lt - 1) ∧
      (d.fsk.fcd = s.fsk.fcd →
        exec (.step b) s = .next { d.sampled b (y.setWidth 16) s with
          sched := { s.sched with lt := lt }
          resp := some (y ||| 0x10000) }) ∧
      (s.fsk.fcd = false → d.fsk.fcd = true →
        exec (.step b) s = .next { d.sampled b (y.setWidth 16) s with
          evt := d.evt ||| 0x1
          sched := { s.sched with lt := lt, connect := true }
          resp := some (y ||| 0x10000) }) ∧
      (s.fsk.fcd = true → d.fsk.fcd = false →
        exec (.step b) s = .next { d.sampled b (y.setWidth 16) s with
          evt := d.evt ||| 0x300
          sched := { s.sched.released with lt := lt }
          resp := some (y ||| 0x30000) }) := by
  obtain ⟨-, -, -, hin, hout, -⟩ := hmem
  obtain ⟨r, hfskd⟩ := exec_fskd_parked b (c := s.parked.sched) rfl s.inbuf s.outbuf
    (some ((lo16 (fskMod s).1).setWidth 32)) (fskMod s).2
  have hturn := fskTurn_setIn (b := b) hin hrunning
  have hrun := fsk_runsBySamples.run 1 (setIn 0 b s) hdp
  have hread := Memory.read_write_same _ hout 0 (lo16 (fskMod s).1)
  obtain ⟨hcd, hlost⟩ := fskDem_event b.toInt (fskMod s).2
  rw [fskMod_fcd] at hcd hlost
  refine ⟨_, _, _, _, exec_fskm_parked s, rfl, hfskd, rfl, ?_⟩
  rw [setWidth_sample]
  generalize fskDem b.toInt (fskMod s).2 = a at hcd hlost hturn ⊢
  generalize lo16 (fskMod s).1 = y at hturn hread ⊢
  obtain ⟨emitted, ev, h⟩ := a
  have hfcd : (h.withOuter s.parked.sched s.inbuf s.outbuf (some r)).fsk.fcd = h.fsk.fcd := rfl
  rw [hfcd]
  dsimp only at hcd hlost hturn
  refine ⟨fun hsame => ?_, fun hbefore hafter => ?_, fun hbefore hafter => ?_⟩
  · obtain rfl : ev = .none := by
      rw [hsame] at hcd hlost
      cases ev with
      | none => rfl
      | cd => simpa using hcd.1 rfl
      | lost => simpa using hlost.1 rfl
    rw [(exec_step_of_turn hrun hturn nofun hread).1 hpend]
    rfl
  · rw [hcd.2 ⟨hbefore, hafter⟩] at hturn
    rw [(exec_step_of_turn hrun hturn nofun hread).1 hpend]
    rfl
  · have hevt (e : BitVec 11) : e ||| Event.cdlost.mask ||| 0x200 = e ||| 0x300 := evt_or_or (by decide) e
    rw [hlost.2 ⟨hbefore, hafter⟩] at hturn
    rw [(exec_step_of_turn hrun hturn nofun hread).2 rfl, applySwitch_released rfl, ← hevt]
    rfl

/-! ### The PSK modem (R300) -/

/-- PSKM on the parked machine. -/
theorem exec_pskm_parked (s : State) : exec .pskm s.parked = .next
    ((pskMod s).2.withOuter s.parked.sched s.inbuf s.outbuf (some ((lo16 (pskMod s).1).setWidth 32))) := by
  have hmod : pskMod s.parked = ((pskMod s).1, (pskMod s).2.withOuter s.parked.sched s.inbuf s.outbuf s.resp) :=
    pskMod_withOuter s.parked.sched s.inbuf s.outbuf s.resp s
  rw [exec_pskm rfl, hmod]
  rfl

/-- PSKD on a parked machine. -/
theorem exec_pskd_parked (b : BitVec 16) {c : Sched} (hidle : c.dp = .none) (i o : Memory 16) (x : Option Word)
    (s : State) :
    ∃ r, exec (.pskd b) (s.withOuter c i o x) = .next ((pskDem b.toInt s).2.2.withOuter c i o (some r)) := by
  obtain ⟨r, hexec⟩ : ∃ r, exec (.pskd b) (s.withOuter c i o x) =
      .next { pskAfter b.toInt (s.withOuter c i o x) with resp := some r } := ⟨_, exec_pskd b hidle⟩
  obtain ⟨ev, hdem⟩ := pskDem_outcome b.toInt (s.withOuter c i o x)
  have hafter : pskAfter b.toInt (s.withOuter c i o x) = (pskDem b.toInt s).2.2.withOuter c i o x := by
    rw [pskDem_withOuter] at hdem
    exact (congrArg (·.2.2) hdem).symm
  rw [hafter] at hexec
  generalize (pskDem b.toInt s).2.2 = t at hexec ⊢
  exact ⟨r, hexec⟩

/-- PSK's turn in STEP with time left. -/
theorem pskTurn_setIn {b : BitVec 16} {s : State} (hin : s.inbuf.wf 256 = true)
    (hrunning : s.sched.connect = true ∨ 0 < s.sched.lt) : pskTurn 0 (setIn 0 b s) =
      (.more, pskEvent (pskDem b.toInt (pskMod s).2).2.1 ((pskDem b.toInt (pskMod s).2).2.2.withOuter
        { s.sched with lt := s.ltAfter } (s.inbuf.write 0 b) (s.outbuf.write 0 (lo16 (pskMod s).1)) s.resp)) := by
  have htimer := lineTimer_running (s := setIn 0 b s) hrunning
  have hsample := pskSample_withOuter (Memory.read_write_same _ hin 0 b) { s.sched with lt := s.ltAfter } s.outbuf
    s.resp s
  rw [pskTurn, htimer]
  exact congrArg (fun e => (Turn.more, pskEvent e.1 e.2)) hsample

/-- The seventh clause of O31: one sample of the PSK modem. -/
theorem psk_oneSample (b : BitVec 16) {s : State} (hmem : s.MemoryCanonical) (hdp : s.sched.dp = .psk)
    (hpend : s.sched.pend = false) (hrunning : s.sched.connect = true ∨ 0 < s.sched.lt) :
    ∃ (m d : State) (y : Word) (lt : Nat), exec .pskm s.parked = .next m ∧ m.resp = some y ∧
      exec (.pskd b) m = .next d ∧ lt = (if s.sched.connect then s.sched.lt else s.sched.lt - 1) ∧
      (d.neg.ph = s.neg.ph ∨ d.neg.ph = .scrambled →
        exec (.step b) s = .next { d.sampled b (y.setWidth 16) s with
          sched := { s.sched with lt := lt }
          resp := some (y ||| 0x10000) }) ∧
      (s.neg.ph ≠ .data → d.neg.ph = .data →
        exec (.step b) s = .next { d.sampled b (y.setWidth 16) s with
          evt := d.evt ||| 0x1
          sched := { s.sched with lt := lt, connect := true }
          resp := some (y ||| 0x10000) }) ∧
      (s.neg.ph ≠ .failed → d.neg.ph = .failed →
        exec (.step b) s = .next { d.sampled b (y.setWidth 16) s with
          evt := d.evt ||| 0x4
          sched := { s.sched with lt := lt }
          resp := some (y ||| 0x10000) }) := by
  obtain ⟨-, -, -, hin, hout, -⟩ := hmem
  obtain ⟨r, hpskd⟩ := exec_pskd_parked b (c := s.parked.sched) rfl s.inbuf s.outbuf
    (some ((lo16 (pskMod s).1).setWidth 32)) (pskMod s).2
  have hturn := pskTurn_setIn (b := b) hin hrunning
  have hrun := psk_runsBySamples.run 1 (setIn 0 b s) hdp
  have hread := Memory.read_write_same _ hout 0 (lo16 (pskMod s).1)
  obtain ⟨hdata, hfail⟩ := pskDem_event b.toInt (pskMod s).2
  rw [pskMod_ph] at hdata hfail
  refine ⟨_, _, _, _, exec_pskm_parked s, rfl, hpskd, rfl, ?_⟩
  rw [setWidth_sample]
  generalize pskDem b.toInt (pskMod s).2 = a at hdata hfail hturn ⊢
  generalize lo16 (pskMod s).1 = y at hturn hread ⊢
  obtain ⟨emitted, ev, h⟩ := a
  have hph : (h.withOuter s.parked.sched s.inbuf s.outbuf (some r)).neg.ph = h.neg.ph := rfl
  rw [hph]
  dsimp only at hdata hfail hturn
  refine ⟨fun hquiet => ?_, fun hbefore hafter => ?_, fun hbefore hafter => ?_⟩
  · have hkept : (pskEvent ev) = id := by
      cases ev with
      | none => rfl
      | scr => rfl
      | data =>
        obtain ⟨hne, he⟩ := hdata.1 rfl
        simp [he, hne.symm] at hquiet
      | fail =>
        obtain ⟨hne, he⟩ := hfail.1 rfl
        simp [he, hne.symm] at hquiet
    rw [hkept] at hturn
    rw [(exec_step_of_turn hrun hturn nofun hread).1 hpend]
    rfl
  · obtain rfl := hdata.2 ⟨hbefore, hafter⟩
    rw [(exec_step_of_turn hrun hturn nofun hread).1 hpend]
    rfl
  · obtain rfl := hfail.2 ⟨hbefore, hafter⟩
    rw [(exec_step_of_turn hrun hturn nofun hread).1 hpend]
    rfl

/-! ### O31 -/

/-- Settles O31: the time-outs, the line timer, and one sample of each datapump. -/
theorem expiredTimersHangUp : Obligations.ExpiredTimersHangUp := by
  unfold Obligations.ExpiredTimersHangUp
  refine ⟨fun b s hlow hhigh hexpired => ?_, fun b s hdp hpend hconnect hlt => ?_,
    fun b s hlow hhigh hdp hpend hconnect => ?_, fun b s => detector_oneSample b, fun b s => dialerWait_oneSample b,
    fun b s => fsk_oneSample b, fun b s => psk_oneSample b⟩
  · refine exec_proc_expired ⟨hlow, hhigh⟩ ?_
    rcases hexpired with ⟨hdp | hdp, hconnect, hlt⟩ | ⟨hdp, htmo⟩
    · exact fsk_runsBySamples.expired hdp (fskTurn_expired hconnect hlt 0) hlow
    · exact psk_runsBySamples.expired hdp (pskTurn_expired hconnect hlt 0) hlow
    · exact detector_runsBySamples.expired hdp (detectorTurn_expired htmo 0) hlow
  · have hcounts : s.ltAfter = s.sched.lt - 1 := by simp [State.ltAfter, hconnect]
    rw [← hcounts]
    rcases hdp with hdp | hdp
    · exact fsk_runsBySamples.exec_step_time fskTurn_countsTime hdp hpend (.inr hlt) b
    · exact psk_runsBySamples.exec_step_time pskTurn_countsTime hdp hpend (.inr hlt) b
  · have hs : s.ConnectedAt s.sched.lt := ⟨hconnect, rfl, hpend⟩
    rcases hdp with hdp | hdp
    · exact fsk_runsBySamples.exec_proc_time fskTurn_countsTime hdp hs ⟨hlow, hhigh⟩
    · exact psk_runsBySamples.exec_proc_time pskTurn_countsTime hdp hs ⟨hlow, hhigh⟩

end Sys2Proof.Machine
end
